-- ==== Sys2Proof/Word.lean ====
section
/-!
DEFINITION. The widths of this hardware: register numbers, instruction words, register contents, bytes.
-/

namespace Sys2Proof

/-- A register number, a 5-bit field of the instruction (rules R20, R61). -/
abbrev Reg := BitVec 5

/-- An instruction word; every instruction is 32 bits long (rule R60). -/
abbrev Word := BitVec 32

/-- Room for the contents of one GPR (rule R20) or of a 64-bit operand (rule R22). On RV32 a GPR uses
the low 32 bits. -/
abbrev XWord := BitVec 64

/-- One byte of memory (rule R41). -/
abbrev Byte := BitVec 8

end Sys2Proof
end

