-- ==== Sys2Proof/Config.lean ====
section
/-!
DEFINITION. The implementation parameters of rule R10 and of the parameter list of 92_eei_decisions.md.
No instruction changes one. Every meaning is given for every value of every parameter.
-/

namespace Sys2Proof

/-- `XLEN`, the register width (rule R10). -/
inductive Xlen where
  | rv32
  | rv64
deriving DecidableEq, Repr

/-- The number of bits of a GPR (rules R10, R20). -/
def Xlen.bits : Xlen → Nat
  | .rv32 => 32
  | .rv64 => 64

/-- The four states of `mstatus.VS` and `vsstatus.VS` (rule R30). -/
inductive VState where
  | off
  | initial
  | clean
  | dirty
deriving DecidableEq, Repr

/-- `ODD_PAIR` (rule R24, decision D6): what an odd register number in a pair field means on RV32. -/
inductive OddPair where
  | illegal
  | ignoreBit0
deriving DecidableEq, Repr

/-- `VS_DIRTY` (rule R553, decision D17): whether an instruction that can set `OV` counts as writing
`vxsat` on an execution in which nothing clips. -/
inductive VsDirty where
  | static
  | dynamic
deriving DecidableEq, Repr

/-- The parameters of a model of this hardware (rule R10; the list that ends 92_eei_decisions.md). -/
structure Config where
  /-- `XLEN` (R10). -/
  xlen : Xlen
  /-- `ZPSF` (R10): Zpsfoperand is implemented. -/
  zpsf : Bool
  /-- `HAS_VS` (R10, D24): `mstatus.VS` is implemented. -/
  hasVs : Bool
  /-- `HAS_H` (R10, D24): `vsstatus.VS` is implemented. -/
  hasH : Bool
  /-- `MISA_P` (R10, D12): read by no rule. -/
  misaP : Bool
  /-- `ODD_PAIR` (D6). -/
  oddPair : OddPair
  /-- `KEEP_REPLACED_ENCODINGS` (D15). -/
  keepReplaced : Bool
  /-- `VS_DIRTY` (D17). -/
  vsDirty : VsDirty
  /-- `OV_RESET` (D10). -/
  ovReset : Bool
  /-- `VS_RESET` (D10). -/
  vsReset : VState
  /-- The reset value of `vsVS` (R580). -/
  vsVsReset : VState
  /-- The reset value of `V` (R580). -/
  vReset : Bool
  /-- `RESET_PC` (D11). -/
  resetPc : XWord
  /-- `END_PC` (D23); none when no program end is set. -/
  endPc : Option XWord
  /-- `MEM_BASE` (D7). -/
  memBase : Nat
  /-- `MEM_SIZE` (D7), in bytes. -/
  memSize : Nat
deriving DecidableEq, Repr

/-- The configuration of `State.reset`: the default each decision names, the addresses that the test
programs of 95_test_vectors.md use, and RV64 with Zpsfoperand where the spec names no default
(DESIGN CHOICE, log entries 1, 3, 4, 5). -/
def Config.default : Config where
  xlen := .rv64
  zpsf := true
  hasVs := false
  hasH := false
  misaP := true
  oddPair := .illegal
  keepReplaced := false
  vsDirty := .static
  ovReset := false
  vsReset := .initial
  vsVsReset := .initial
  vReset := false
  resetPc := 0x80000000#64
  endPc := none
  memBase := 0x80000000
  memSize := 0x10000

/-- The configurations rules R3 and R10 allow: Zpsfoperand is required on RV64, `HAS_H` is meaningful
only with `HAS_VS` (D24), and the memory region lies in the address space (R46). -/
def Config.wellFormed (c : Config) : Bool :=
  (c.xlen != .rv64 || c.zpsf) && (!c.hasH || c.hasVs) &&
    decide (c.memBase + c.memSize ≤ 2 ^ c.xlen.bits)

end Sys2Proof
end

