-- ==== Sys2Proof/Syntax.lean ====
section
/-!
DEFINITION. The instructions: one constructor of `Instr` for each of the 357 rows of opcode_table.json, and `Row`, the
bare names of the rows. Operands stand in the order of the assembler where that is rd, rs1, rs2 (rule R79); a
mnemonic with two encodings, one for each XLEN, has one row for each (`Rv32`, `Rv64`).
-/

namespace Sys2Proof

/-- The instructions of opcode_table.json, by mnemonic (rules R60 to R83). -/
inductive Instr where
  /-- RDOV (R27, an assembler name for CSRRS rd, vxsat, x0). -/
  | rdov (rd : Reg)
  /-- CLROV (R28, an assembler name for CSRRCI x0, vxsat, 1). -/
  | clrov
  /-- CSRRW (R29). -/
  | csrrw (rd rs1 : Reg)
  /-- CSRRS (R29). -/
  | csrrs (rd rs1 : Reg)
  /-- CSRRC (R29). -/
  | csrrc (rd rs1 : Reg)
  /-- CSRRWI (R29). -/
  | csrrwi (rd : Reg) (uimm : BitVec 5)
  /-- CSRRSI (R29). -/
  | csrrsi (rd : Reg) (uimm : BitVec 5)
  /-- CSRRCI (R29). -/
  | csrrci (rd : Reg) (uimm : BitVec 5)
  /-- LW (R51). -/
  | lw (rd rs1 : Reg) (imm : BitVec 12)
  /-- SW (R52). -/
  | sw (rs2 rs1 : Reg) (imm : BitVec 12)
  /-- LD (R53, RV64 only). -/
  | ld (rd rs1 : Reg) (imm : BitVec 12)
  /-- SD (R54, RV64 only). -/
  | sd (rs2 rs1 : Reg) (imm : BitVec 12)
  /-- ADDI (R81). -/
  | addi (rd rs1 : Reg) (imm : BitVec 12)
  /-- LUI (R82). -/
  | lui (rd : Reg) (imm : BitVec 20)
  /-- BNE (R83). -/
  | bne (rs1 rs2 : Reg) (offset : BitVec 13)
  /-- CLZ (R101, RV32 only). -/
  | clz (rd rs1 : Reg)
  /-- CMIX (R102). -/
  | cmix (rd rs1 rs2 rs3 : Reg)
  /-- FSR (R103, RV32 only). -/
  | fsr (rd rs1 rs2 rs3 : Reg)
  /-- FSRI (R104, RV32 only). -/
  | fsri (rd rs1 rs3 : Reg) (imm : BitVec 6)
  /-- FSRW (R106, RV64 only). -/
  | fsrw (rd rs1 rs2 rs3 : Reg)
  /-- MAX (R107). -/
  | max (rd rs1 rs2 : Reg)
  /-- MIN (R108). -/
  | min (rd rs1 rs2 : Reg)
  /-- PACK (R109). -/
  | pack (rd rs1 rs2 : Reg)
  /-- PACKU (R110). -/
  | packu (rd rs1 rs2 : Reg)
  /-- REV (R112, RV32 only). -/
  | revRv32 (rd rs1 : Reg)
  /-- REV (R112, RV64 only). -/
  | revRv64 (rd rs1 : Reg)
  /-- REV8.H (R113). -/
  | rev8H (rd rs1 : Reg)
  /-- BPICK (R115, removed (R114)). -/
  | bpick (rd rs1 rs2 rc : Reg)
  /-- MAXW (R116, removed (R114)). -/
  | maxw (rd rs1 rs2 : Reg)
  /-- MINW (R117, removed (R114)). -/
  | minw (rd rs1 rs2 : Reg)
  /-- ADD16 (R132). -/
  | add16 (rd rs1 rs2 : Reg)
  /-- RADD16 (R133). -/
  | radd16 (rd rs1 rs2 : Reg)
  /-- URADD16 (R134). -/
  | uradd16 (rd rs1 rs2 : Reg)
  /-- KADD16 (R135). -/
  | kadd16 (rd rs1 rs2 : Reg)
  /-- UKADD16 (R136). -/
  | ukadd16 (rd rs1 rs2 : Reg)
  /-- SUB16 (R137). -/
  | sub16 (rd rs1 rs2 : Reg)
  /-- RSUB16 (R138). -/
  | rsub16 (rd rs1 rs2 : Reg)
  /-- URSUB16 (R139). -/
  | ursub16 (rd rs1 rs2 : Reg)
  /-- KSUB16 (R140). -/
  | ksub16 (rd rs1 rs2 : Reg)
  /-- UKSUB16 (R141). -/
  | uksub16 (rd rs1 rs2 : Reg)
  /-- CRAS16 (R142). -/
  | cras16 (rd rs1 rs2 : Reg)
  /-- RCRAS16 (R143). -/
  | rcras16 (rd rs1 rs2 : Reg)
  /-- URCRAS16 (R144). -/
  | urcras16 (rd rs1 rs2 : Reg)
  /-- KCRAS16 (R145). -/
  | kcras16 (rd rs1 rs2 : Reg)
  /-- UKCRAS16 (R146). -/
  | ukcras16 (rd rs1 rs2 : Reg)
  /-- CRSA16 (R147). -/
  | crsa16 (rd rs1 rs2 : Reg)
  /-- RCRSA16 (R148). -/
  | rcrsa16 (rd rs1 rs2 : Reg)
  /-- URCRSA16 (R149). -/
  | urcrsa16 (rd rs1 rs2 : Reg)
  /-- KCRSA16 (R150). -/
  | kcrsa16 (rd rs1 rs2 : Reg)
  /-- UKCRSA16 (R151). -/
  | ukcrsa16 (rd rs1 rs2 : Reg)
  /-- STAS16 (R152). -/
  | stas16 (rd rs1 rs2 : Reg)
  /-- RSTAS16 (R153). -/
  | rstas16 (rd rs1 rs2 : Reg)
  /-- URSTAS16 (R154). -/
  | urstas16 (rd rs1 rs2 : Reg)
  /-- KSTAS16 (R155). -/
  | kstas16 (rd rs1 rs2 : Reg)
  /-- UKSTAS16 (R156). -/
  | ukstas16 (rd rs1 rs2 : Reg)
  /-- STSA16 (R157). -/
  | stsa16 (rd rs1 rs2 : Reg)
  /-- RSTSA16 (R158). -/
  | rstsa16 (rd rs1 rs2 : Reg)
  /-- URSTSA16 (R159). -/
  | urstsa16 (rd rs1 rs2 : Reg)
  /-- KSTSA16 (R160). -/
  | kstsa16 (rd rs1 rs2 : Reg)
  /-- UKSTSA16 (R161). -/
  | ukstsa16 (rd rs1 rs2 : Reg)
  /-- ADD8 (R171). -/
  | add8 (rd rs1 rs2 : Reg)
  /-- RADD8 (R172). -/
  | radd8 (rd rs1 rs2 : Reg)
  /-- URADD8 (R173). -/
  | uradd8 (rd rs1 rs2 : Reg)
  /-- KADD8 (R174). -/
  | kadd8 (rd rs1 rs2 : Reg)
  /-- UKADD8 (R175). -/
  | ukadd8 (rd rs1 rs2 : Reg)
  /-- SUB8 (R176). -/
  | sub8 (rd rs1 rs2 : Reg)
  /-- RSUB8 (R177). -/
  | rsub8 (rd rs1 rs2 : Reg)
  /-- URSUB8 (R178). -/
  | ursub8 (rd rs1 rs2 : Reg)
  /-- KSUB8 (R179). -/
  | ksub8 (rd rs1 rs2 : Reg)
  /-- UKSUB8 (R180). -/
  | uksub8 (rd rs1 rs2 : Reg)
  /-- SRA16 (R183). -/
  | sra16 (rd rs1 rs2 : Reg)
  /-- SRAI16 (R184). -/
  | srai16 (rd rs1 : Reg) (imm : BitVec 4)
  /-- SRA16.u (R185). -/
  | sra16U (rd rs1 rs2 : Reg)
  /-- SRAI16.u (R186). -/
  | srai16U (rd rs1 : Reg) (imm : BitVec 4)
  /-- SRL16 (R187). -/
  | srl16 (rd rs1 rs2 : Reg)
  /-- SRLI16 (R188). -/
  | srli16 (rd rs1 : Reg) (imm : BitVec 4)
  /-- SRL16.u (R189). -/
  | srl16U (rd rs1 rs2 : Reg)
  /-- SRLI16.u (R190). -/
  | srli16U (rd rs1 : Reg) (imm : BitVec 4)
  /-- SLL16 (R191). -/
  | sll16 (rd rs1 rs2 : Reg)
  /-- SLLI16 (R192). -/
  | slli16 (rd rs1 : Reg) (imm : BitVec 4)
  /-- KSLL16 (R193). -/
  | ksll16 (rd rs1 rs2 : Reg)
  /-- KSLLI16 (R194). -/
  | kslli16 (rd rs1 : Reg) (imm : BitVec 4)
  /-- KSLRA16 (R195). -/
  | kslra16 (rd rs1 rs2 : Reg)
  /-- KSLRA16.u (R196). -/
  | kslra16U (rd rs1 rs2 : Reg)
  /-- SRA8 (R197). -/
  | sra8 (rd rs1 rs2 : Reg)
  /-- SRAI8 (R198). -/
  | srai8 (rd rs1 : Reg) (imm : BitVec 3)
  /-- SRA8.u (R199). -/
  | sra8U (rd rs1 rs2 : Reg)
  /-- SRAI8.u (R200). -/
  | srai8U (rd rs1 : Reg) (imm : BitVec 3)
  /-- SRL8 (R201). -/
  | srl8 (rd rs1 rs2 : Reg)
  /-- SRLI8 (R202). -/
  | srli8 (rd rs1 : Reg) (imm : BitVec 3)
  /-- SRL8.u (R203). -/
  | srl8U (rd rs1 rs2 : Reg)
  /-- SRLI8.u (R204). -/
  | srli8U (rd rs1 : Reg) (imm : BitVec 3)
  /-- SLL8 (R205). -/
  | sll8 (rd rs1 rs2 : Reg)
  /-- SLLI8 (R206). -/
  | slli8 (rd rs1 : Reg) (imm : BitVec 3)
  /-- KSLL8 (R207). -/
  | ksll8 (rd rs1 rs2 : Reg)
  /-- KSLLI8 (R208). -/
  | kslli8 (rd rs1 : Reg) (imm : BitVec 3)
  /-- KSLRA8 (R209). -/
  | kslra8 (rd rs1 rs2 : Reg)
  /-- KSLRA8.u (R210). -/
  | kslra8U (rd rs1 rs2 : Reg)
  /-- CMPEQ16 (R221). -/
  | cmpeq16 (rd rs1 rs2 : Reg)
  /-- SCMPLT16 (R222). -/
  | scmplt16 (rd rs1 rs2 : Reg)
  /-- SCMPLE16 (R223). -/
  | scmple16 (rd rs1 rs2 : Reg)
  /-- UCMPLT16 (R224). -/
  | ucmplt16 (rd rs1 rs2 : Reg)
  /-- UCMPLE16 (R225). -/
  | ucmple16 (rd rs1 rs2 : Reg)
  /-- CMPEQ8 (R226). -/
  | cmpeq8 (rd rs1 rs2 : Reg)
  /-- SCMPLT8 (R227). -/
  | scmplt8 (rd rs1 rs2 : Reg)
  /-- SCMPLE8 (R228). -/
  | scmple8 (rd rs1 rs2 : Reg)
  /-- UCMPLT8 (R229). -/
  | ucmplt8 (rd rs1 rs2 : Reg)
  /-- UCMPLE8 (R230). -/
  | ucmple8 (rd rs1 rs2 : Reg)
  /-- SMIN16 (R235). -/
  | smin16 (rd rs1 rs2 : Reg)
  /-- UMIN16 (R236). -/
  | umin16 (rd rs1 rs2 : Reg)
  /-- SMAX16 (R237). -/
  | smax16 (rd rs1 rs2 : Reg)
  /-- UMAX16 (R238). -/
  | umax16 (rd rs1 rs2 : Reg)
  /-- SCLIP16 (R239). -/
  | sclip16 (rd rs1 : Reg) (imm : BitVec 4)
  /-- UCLIP16 (R240). -/
  | uclip16 (rd rs1 : Reg) (imm : BitVec 4)
  /-- KABS16 (R241). -/
  | kabs16 (rd rs1 : Reg)
  /-- CLRS16 (R242). -/
  | clrs16 (rd rs1 : Reg)
  /-- CLZ16 (R243). -/
  | clz16 (rd rs1 : Reg)
  /-- SWAP16 (R244, an assembler name for PKBT16). -/
  | swap16 (rd rs1 : Reg)
  /-- SMIN8 (R250). -/
  | smin8 (rd rs1 rs2 : Reg)
  /-- UMIN8 (R251). -/
  | umin8 (rd rs1 rs2 : Reg)
  /-- SMAX8 (R252). -/
  | smax8 (rd rs1 rs2 : Reg)
  /-- UMAX8 (R253). -/
  | umax8 (rd rs1 rs2 : Reg)
  /-- KABS8 (R254). -/
  | kabs8 (rd rs1 : Reg)
  /-- SCLIP8 (R255). -/
  | sclip8 (rd rs1 : Reg) (imm : BitVec 3)
  /-- UCLIP8 (R256). -/
  | uclip8 (rd rs1 : Reg) (imm : BitVec 3)
  /-- CLRS8 (R257). -/
  | clrs8 (rd rs1 : Reg)
  /-- CLZ8 (R258). -/
  | clz8 (rd rs1 : Reg)
  /-- SWAP8 (R259). -/
  | swap8 (rd rs1 : Reg)
  /-- SUNPKD810 (R260). -/
  | sunpkd810 (rd rs1 : Reg)
  /-- SUNPKD820 (R261). -/
  | sunpkd820 (rd rs1 : Reg)
  /-- SUNPKD830 (R262). -/
  | sunpkd830 (rd rs1 : Reg)
  /-- SUNPKD831 (R263). -/
  | sunpkd831 (rd rs1 : Reg)
  /-- SUNPKD832 (R264). -/
  | sunpkd832 (rd rs1 : Reg)
  /-- ZUNPKD810 (R265). -/
  | zunpkd810 (rd rs1 : Reg)
  /-- ZUNPKD820 (R266). -/
  | zunpkd820 (rd rs1 : Reg)
  /-- ZUNPKD830 (R267). -/
  | zunpkd830 (rd rs1 : Reg)
  /-- ZUNPKD831 (R268). -/
  | zunpkd831 (rd rs1 : Reg)
  /-- ZUNPKD832 (R269). -/
  | zunpkd832 (rd rs1 : Reg)
  /-- SMUL16 (R270). -/
  | smul16 (rd rs1 rs2 : Reg)
  /-- SMULX16 (R271). -/
  | smulx16 (rd rs1 rs2 : Reg)
  /-- UMUL16 (R272). -/
  | umul16 (rd rs1 rs2 : Reg)
  /-- UMULX16 (R273). -/
  | umulx16 (rd rs1 rs2 : Reg)
  /-- KHM16 (R274). -/
  | khm16 (rd rs1 rs2 : Reg)
  /-- KHMX16 (R275). -/
  | khmx16 (rd rs1 rs2 : Reg)
  /-- SMUL8 (R276). -/
  | smul8 (rd rs1 rs2 : Reg)
  /-- SMULX8 (R277). -/
  | smulx8 (rd rs1 rs2 : Reg)
  /-- UMUL8 (R278). -/
  | umul8 (rd rs1 rs2 : Reg)
  /-- UMULX8 (R279). -/
  | umulx8 (rd rs1 rs2 : Reg)
  /-- KHM8 (R280). -/
  | khm8 (rd rs1 rs2 : Reg)
  /-- KHMX8 (R281). -/
  | khmx8 (rd rs1 rs2 : Reg)
  /-- PKBB16 (R282, RV64 only). -/
  | pkbb16 (rd rs1 rs2 : Reg)
  /-- PKBT16 (R283). -/
  | pkbt16 (rd rs1 rs2 : Reg)
  /-- PKTT16 (R284, RV64 only). -/
  | pktt16 (rd rs1 rs2 : Reg)
  /-- PKTB16 (R285). -/
  | pktb16 (rd rs1 rs2 : Reg)
  /-- SMMUL (R290, RV64 only). -/
  | smmul (rd rs1 rs2 : Reg)
  /-- SMMUL (R290, RV32 only, an assembler name for MULH of the M extension). -/
  | smmulRv32 (rd rs1 rs2 : Reg)
  /-- SMMUL.u (R291). -/
  | smmulU (rd rs1 rs2 : Reg)
  /-- KMMAC (R292). -/
  | kmmac (rd rs1 rs2 : Reg)
  /-- KMMAC.u (R293). -/
  | kmmacU (rd rs1 rs2 : Reg)
  /-- KMMSB (R294). -/
  | kmmsb (rd rs1 rs2 : Reg)
  /-- KMMSB.u (R295). -/
  | kmmsbU (rd rs1 rs2 : Reg)
  /-- KWMMUL (R296). -/
  | kwmmul (rd rs1 rs2 : Reg)
  /-- KWMMUL.u (R297). -/
  | kwmmulU (rd rs1 rs2 : Reg)
  /-- SMMWB (R298). -/
  | smmwb (rd rs1 rs2 : Reg)
  /-- SMMWB.u (R299). -/
  | smmwbU (rd rs1 rs2 : Reg)
  /-- SMMWT (R300). -/
  | smmwt (rd rs1 rs2 : Reg)
  /-- SMMWT.u (R301). -/
  | smmwtU (rd rs1 rs2 : Reg)
  /-- KMMAWB (R302). -/
  | kmmawb (rd rs1 rs2 : Reg)
  /-- KMMAWB.u (R303). -/
  | kmmawbU (rd rs1 rs2 : Reg)
  /-- KMMAWT (R304). -/
  | kmmawt (rd rs1 rs2 : Reg)
  /-- KMMAWT.u (R305). -/
  | kmmawtU (rd rs1 rs2 : Reg)
  /-- KMMWB2 (R306). -/
  | kmmwb2 (rd rs1 rs2 : Reg)
  /-- KMMWB2.u (R307). -/
  | kmmwb2U (rd rs1 rs2 : Reg)
  /-- KMMWT2 (R308). -/
  | kmmwt2 (rd rs1 rs2 : Reg)
  /-- KMMWT2.u (R309). -/
  | kmmwt2U (rd rs1 rs2 : Reg)
  /-- KMMAWB2 (R310). -/
  | kmmawb2 (rd rs1 rs2 : Reg)
  /-- KMMAWB2.u (R311). -/
  | kmmawb2U (rd rs1 rs2 : Reg)
  /-- KMMAWT2 (R312). -/
  | kmmawt2 (rd rs1 rs2 : Reg)
  /-- KMMAWT2.u (R313). -/
  | kmmawt2U (rd rs1 rs2 : Reg)
  /-- SMBB16 (R321). -/
  | smbb16 (rd rs1 rs2 : Reg)
  /-- SMBT16 (R322). -/
  | smbt16 (rd rs1 rs2 : Reg)
  /-- SMTT16 (R323). -/
  | smtt16 (rd rs1 rs2 : Reg)
  /-- KMDA (R324). -/
  | kmda (rd rs1 rs2 : Reg)
  /-- KMXDA (R325). -/
  | kmxda (rd rs1 rs2 : Reg)
  /-- SMDS (R326). -/
  | smds (rd rs1 rs2 : Reg)
  /-- SMDRS (R327). -/
  | smdrs (rd rs1 rs2 : Reg)
  /-- SMXDS (R328). -/
  | smxds (rd rs1 rs2 : Reg)
  /-- KMABB (R329). -/
  | kmabb (rd rs1 rs2 : Reg)
  /-- KMABT (R330). -/
  | kmabt (rd rs1 rs2 : Reg)
  /-- KMATT (R331). -/
  | kmatt (rd rs1 rs2 : Reg)
  /-- KMADA (R332). -/
  | kmada (rd rs1 rs2 : Reg)
  /-- KMAXDA (R333). -/
  | kmaxda (rd rs1 rs2 : Reg)
  /-- KMADS (R334). -/
  | kmads (rd rs1 rs2 : Reg)
  /-- KMADRS (R335). -/
  | kmadrs (rd rs1 rs2 : Reg)
  /-- KMAXDS (R336). -/
  | kmaxds (rd rs1 rs2 : Reg)
  /-- KMSDA (R337). -/
  | kmsda (rd rs1 rs2 : Reg)
  /-- KMSXDA (R338). -/
  | kmsxda (rd rs1 rs2 : Reg)
  /-- SMAL (R339). -/
  | smal (rd rs1 rs2 : Reg)
  /-- SCLIP32 (R341). -/
  | sclip32 (rd rs1 : Reg) (imm : BitVec 5)
  /-- UCLIP32 (R342). -/
  | uclip32 (rd rs1 : Reg) (imm : BitVec 5)
  /-- CLRS32 (R344). -/
  | clrs32 (rd rs1 : Reg)
  /-- CLZ32 (R343, RV64 only). -/
  | clz32 (rd rs1 : Reg)
  /-- PBSAD (R345). -/
  | pbsad (rd rs1 rs2 : Reg)
  /-- PBSADA (R346). -/
  | pbsada (rd rs1 rs2 : Reg)
  /-- SMAQA (R348). -/
  | smaqa (rd rs1 rs2 : Reg)
  /-- UMAQA (R349). -/
  | umaqa (rd rs1 rs2 : Reg)
  /-- SMAQA.SU (R350). -/
  | smaqaSu (rd rs1 rs2 : Reg)
  /-- ADD64 (R362, RV32 only). -/
  | add64 (rd rs1 rs2 : Reg)
  /-- RADD64 (R363). -/
  | radd64 (rd rs1 rs2 : Reg)
  /-- URADD64 (R364). -/
  | uradd64 (rd rs1 rs2 : Reg)
  /-- KADD64 (R365). -/
  | kadd64 (rd rs1 rs2 : Reg)
  /-- UKADD64 (R366). -/
  | ukadd64 (rd rs1 rs2 : Reg)
  /-- SUB64 (R367, RV32 only). -/
  | sub64 (rd rs1 rs2 : Reg)
  /-- RSUB64 (R368). -/
  | rsub64 (rd rs1 rs2 : Reg)
  /-- URSUB64 (R369). -/
  | ursub64 (rd rs1 rs2 : Reg)
  /-- KSUB64 (R370). -/
  | ksub64 (rd rs1 rs2 : Reg)
  /-- UKSUB64 (R371). -/
  | uksub64 (rd rs1 rs2 : Reg)
  /-- SMAR64 (R373). -/
  | smar64 (rd rs1 rs2 : Reg)
  /-- SMSR64 (R374). -/
  | smsr64 (rd rs1 rs2 : Reg)
  /-- UMAR64 (R375). -/
  | umar64 (rd rs1 rs2 : Reg)
  /-- UMSR64 (R376). -/
  | umsr64 (rd rs1 rs2 : Reg)
  /-- KMAR64 (R377). -/
  | kmar64 (rd rs1 rs2 : Reg)
  /-- KMSR64 (R378). -/
  | kmsr64 (rd rs1 rs2 : Reg)
  /-- UKMAR64 (R379). -/
  | ukmar64 (rd rs1 rs2 : Reg)
  /-- UKMSR64 (R380). -/
  | ukmsr64 (rd rs1 rs2 : Reg)
  /-- SMALBB (R382). -/
  | smalbb (rd rs1 rs2 : Reg)
  /-- SMALBT (R383). -/
  | smalbt (rd rs1 rs2 : Reg)
  /-- SMALTT (R384). -/
  | smaltt (rd rs1 rs2 : Reg)
  /-- SMALDA (R385). -/
  | smalda (rd rs1 rs2 : Reg)
  /-- SMALXDA (R386). -/
  | smalxda (rd rs1 rs2 : Reg)
  /-- SMALDS (R387). -/
  | smalds (rd rs1 rs2 : Reg)
  /-- SMALDRS (R388). -/
  | smaldrs (rd rs1 rs2 : Reg)
  /-- SMALXDS (R389). -/
  | smalxds (rd rs1 rs2 : Reg)
  /-- SMSLDA (R390). -/
  | smslda (rd rs1 rs2 : Reg)
  /-- SMSLXDA (R391). -/
  | smslxda (rd rs1 rs2 : Reg)
  /-- KADDH (R402). -/
  | kaddh (rd rs1 rs2 : Reg)
  /-- KSUBH (R403). -/
  | ksubh (rd rs1 rs2 : Reg)
  /-- UKADDH (R407). -/
  | ukaddh (rd rs1 rs2 : Reg)
  /-- UKSUBH (R408). -/
  | uksubh (rd rs1 rs2 : Reg)
  /-- KHMBB (R404). -/
  | khmbb (rd rs1 rs2 : Reg)
  /-- KHMBT (R405). -/
  | khmbt (rd rs1 rs2 : Reg)
  /-- KHMTT (R406). -/
  | khmtt (rd rs1 rs2 : Reg)
  /-- KADDW (R410). -/
  | kaddw (rd rs1 rs2 : Reg)
  /-- UKADDW (R411). -/
  | ukaddw (rd rs1 rs2 : Reg)
  /-- KSUBW (R412). -/
  | ksubw (rd rs1 rs2 : Reg)
  /-- UKSUBW (R413). -/
  | uksubw (rd rs1 rs2 : Reg)
  /-- KDMBB (R414). -/
  | kdmbb (rd rs1 rs2 : Reg)
  /-- KDMBT (R415). -/
  | kdmbt (rd rs1 rs2 : Reg)
  /-- KDMTT (R416). -/
  | kdmtt (rd rs1 rs2 : Reg)
  /-- KSLRAW (R417). -/
  | kslraw (rd rs1 rs2 : Reg)
  /-- KSLRAW.u (R418). -/
  | kslrawU (rd rs1 rs2 : Reg)
  /-- KSLLW (R419). -/
  | ksllw (rd rs1 rs2 : Reg)
  /-- KSLLIW (R420). -/
  | kslliw (rd rs1 : Reg) (imm : BitVec 5)
  /-- KDMABB (R421). -/
  | kdmabb (rd rs1 rs2 : Reg)
  /-- KDMABT (R422). -/
  | kdmabt (rd rs1 rs2 : Reg)
  /-- KDMATT (R423). -/
  | kdmatt (rd rs1 rs2 : Reg)
  /-- KABSW (R424). -/
  | kabsw (rd rs1 : Reg)
  /-- RADDW (R426). -/
  | raddw (rd rs1 rs2 : Reg)
  /-- URADDW (R427). -/
  | uraddw (rd rs1 rs2 : Reg)
  /-- RSUBW (R428). -/
  | rsubw (rd rs1 rs2 : Reg)
  /-- URSUBW (R429). -/
  | ursubw (rd rs1 rs2 : Reg)
  /-- MULR64 (R430). -/
  | mulr64 (rd rs1 rs2 : Reg)
  /-- MULSR64 (R431). -/
  | mulsr64 (rd rs1 rs2 : Reg)
  /-- MSUBR32 (R432). -/
  | msubr32 (rd rs1 rs2 : Reg)
  /-- AVE (R435). -/
  | ave (rd rs1 rs2 : Reg)
  /-- SRA.u (R436). -/
  | sraU (rd rs1 rs2 : Reg)
  /-- BITREV (R437). -/
  | bitrev (rd rs1 rs2 : Reg)
  /-- BITREVI (R438, RV32 only). -/
  | bitreviRv32 (rd rs1 : Reg) (imm : BitVec 5)
  /-- BITREVI (R438, RV64 only). -/
  | bitreviRv64 (rd rs1 : Reg) (imm : BitVec 6)
  /-- SRAI.u (R439, RV32 only). -/
  | sraiURv32 (rd rs1 : Reg) (imm : BitVec 5)
  /-- SRAI.u (R439, RV64 only). -/
  | sraiURv64 (rd rs1 : Reg) (imm : BitVec 6)
  /-- INSB (R440, RV32 only). -/
  | insbRv32 (rd rs1 : Reg) (imm : BitVec 2)
  /-- INSB (R440, RV64 only). -/
  | insbRv64 (rd rs1 : Reg) (imm : BitVec 3)
  /-- WEXT (R441). -/
  | wext (rd rs1 rs2 : Reg)
  /-- WEXTI (R442). -/
  | wexti (rd rs1 : Reg) (imm : BitVec 5)
  /-- MADDR32 (R443). -/
  | maddr32 (rd rs1 rs2 : Reg)
  /-- ADD32 (R453, RV64 only). -/
  | add32 (rd rs1 rs2 : Reg)
  /-- RADD32 (R454, RV64 only). -/
  | radd32 (rd rs1 rs2 : Reg)
  /-- URADD32 (R455, RV64 only). -/
  | uradd32 (rd rs1 rs2 : Reg)
  /-- KADD32 (R456, RV64 only). -/
  | kadd32 (rd rs1 rs2 : Reg)
  /-- UKADD32 (R457, RV64 only). -/
  | ukadd32 (rd rs1 rs2 : Reg)
  /-- SUB32 (R458, RV64 only). -/
  | sub32 (rd rs1 rs2 : Reg)
  /-- RSUB32 (R459, RV64 only). -/
  | rsub32 (rd rs1 rs2 : Reg)
  /-- URSUB32 (R460, RV64 only). -/
  | ursub32 (rd rs1 rs2 : Reg)
  /-- KSUB32 (R461, RV64 only). -/
  | ksub32 (rd rs1 rs2 : Reg)
  /-- UKSUB32 (R462, RV64 only). -/
  | uksub32 (rd rs1 rs2 : Reg)
  /-- CRAS32 (R463, RV64 only). -/
  | cras32 (rd rs1 rs2 : Reg)
  /-- RCRAS32 (R464, RV64 only). -/
  | rcras32 (rd rs1 rs2 : Reg)
  /-- URCRAS32 (R465, RV64 only). -/
  | urcras32 (rd rs1 rs2 : Reg)
  /-- KCRAS32 (R466, RV64 only). -/
  | kcras32 (rd rs1 rs2 : Reg)
  /-- UKCRAS32 (R467, RV64 only). -/
  | ukcras32 (rd rs1 rs2 : Reg)
  /-- CRSA32 (R468, RV64 only). -/
  | crsa32 (rd rs1 rs2 : Reg)
  /-- RCRSA32 (R469, RV64 only). -/
  | rcrsa32 (rd rs1 rs2 : Reg)
  /-- URCRSA32 (R470, RV64 only). -/
  | urcrsa32 (rd rs1 rs2 : Reg)
  /-- KCRSA32 (R471, RV64 only). -/
  | kcrsa32 (rd rs1 rs2 : Reg)
  /-- UKCRSA32 (R472, RV64 only). -/
  | ukcrsa32 (rd rs1 rs2 : Reg)
  /-- STAS32 (R473, RV64 only). -/
  | stas32 (rd rs1 rs2 : Reg)
  /-- RSTAS32 (R474, RV64 only). -/
  | rstas32 (rd rs1 rs2 : Reg)
  /-- URSTAS32 (R475, RV64 only). -/
  | urstas32 (rd rs1 rs2 : Reg)
  /-- KSTAS32 (R476, RV64 only). -/
  | kstas32 (rd rs1 rs2 : Reg)
  /-- UKSTAS32 (R477, RV64 only). -/
  | ukstas32 (rd rs1 rs2 : Reg)
  /-- STSA32 (R478, RV64 only). -/
  | stsa32 (rd rs1 rs2 : Reg)
  /-- RSTSA32 (R479, RV64 only). -/
  | rstsa32 (rd rs1 rs2 : Reg)
  /-- URSTSA32 (R480, RV64 only). -/
  | urstsa32 (rd rs1 rs2 : Reg)
  /-- KSTSA32 (R481, RV64 only). -/
  | kstsa32 (rd rs1 rs2 : Reg)
  /-- UKSTSA32 (R482, RV64 only). -/
  | ukstsa32 (rd rs1 rs2 : Reg)
  /-- SRA32 (R484, RV64 only). -/
  | sra32 (rd rs1 rs2 : Reg)
  /-- SRAI32 (R485, RV64 only). -/
  | srai32 (rd rs1 : Reg) (imm : BitVec 5)
  /-- SRA32.u (R486, RV64 only). -/
  | sra32U (rd rs1 rs2 : Reg)
  /-- SRAI32.u (R487, RV64 only). -/
  | srai32U (rd rs1 : Reg) (imm : BitVec 5)
  /-- SRL32 (R488, RV64 only). -/
  | srl32 (rd rs1 rs2 : Reg)
  /-- SRLI32 (R489, RV64 only). -/
  | srli32 (rd rs1 : Reg) (imm : BitVec 5)
  /-- SRL32.u (R490, RV64 only). -/
  | srl32U (rd rs1 rs2 : Reg)
  /-- SRLI32.u (R491, RV64 only). -/
  | srli32U (rd rs1 : Reg) (imm : BitVec 5)
  /-- SLL32 (R492, RV64 only). -/
  | sll32 (rd rs1 rs2 : Reg)
  /-- SLLI32 (R493, RV64 only). -/
  | slli32 (rd rs1 : Reg) (imm : BitVec 5)
  /-- KSLL32 (R494, RV64 only). -/
  | ksll32 (rd rs1 rs2 : Reg)
  /-- KSLLI32 (R495, RV64 only). -/
  | kslli32 (rd rs1 : Reg) (imm : BitVec 5)
  /-- KSLRA32 (R496, RV64 only). -/
  | kslra32 (rd rs1 rs2 : Reg)
  /-- KSLRA32.u (R497, RV64 only). -/
  | kslra32U (rd rs1 rs2 : Reg)
  /-- SMIN32 (R503, RV64 only). -/
  | smin32 (rd rs1 rs2 : Reg)
  /-- UMIN32 (R504, RV64 only). -/
  | umin32 (rd rs1 rs2 : Reg)
  /-- SMAX32 (R505, RV64 only). -/
  | smax32 (rd rs1 rs2 : Reg)
  /-- UMAX32 (R506, RV64 only). -/
  | umax32 (rd rs1 rs2 : Reg)
  /-- KABS32 (R507, RV64 only). -/
  | kabs32 (rd rs1 : Reg)
  /-- KHMBB16 (R509, RV64 only). -/
  | khmbb16 (rd rs1 rs2 : Reg)
  /-- KHMBT16 (R510, RV64 only). -/
  | khmbt16 (rd rs1 rs2 : Reg)
  /-- KHMTT16 (R511, RV64 only). -/
  | khmtt16 (rd rs1 rs2 : Reg)
  /-- KDMBB16 (R512, RV64 only). -/
  | kdmbb16 (rd rs1 rs2 : Reg)
  /-- KDMBT16 (R513, RV64 only). -/
  | kdmbt16 (rd rs1 rs2 : Reg)
  /-- KDMTT16 (R514, RV64 only). -/
  | kdmtt16 (rd rs1 rs2 : Reg)
  /-- KDMABB16 (R515, RV64 only). -/
  | kdmabb16 (rd rs1 rs2 : Reg)
  /-- KDMABT16 (R516, RV64 only). -/
  | kdmabt16 (rd rs1 rs2 : Reg)
  /-- KDMATT16 (R517, RV64 only). -/
  | kdmatt16 (rd rs1 rs2 : Reg)
  /-- SMBB32 (R520, RV64 only, an assembler name for MULSR64). -/
  | smbb32 (rd rs1 rs2 : Reg)
  /-- SMBT32 (R521, RV64 only). -/
  | smbt32 (rd rs1 rs2 : Reg)
  /-- SMTT32 (R522, RV64 only). -/
  | smtt32 (rd rs1 rs2 : Reg)
  /-- KMABB32 (R523, RV64 only). -/
  | kmabb32 (rd rs1 rs2 : Reg)
  /-- KMABT32 (R524, RV64 only). -/
  | kmabt32 (rd rs1 rs2 : Reg)
  /-- KMATT32 (R525, RV64 only). -/
  | kmatt32 (rd rs1 rs2 : Reg)
  /-- KMDA32 (R526, RV64 only). -/
  | kmda32 (rd rs1 rs2 : Reg)
  /-- KMXDA32 (R527, RV64 only). -/
  | kmxda32 (rd rs1 rs2 : Reg)
  /-- KMADA32 (R528, RV64 only, an assembler name for KMAR64). -/
  | kmada32 (rd rs1 rs2 : Reg)
  /-- KMAXDA32 (R529, RV64 only). -/
  | kmaxda32 (rd rs1 rs2 : Reg)
  /-- KMADS32 (R530, RV64 only). -/
  | kmads32 (rd rs1 rs2 : Reg)
  /-- KMADRS32 (R531, RV64 only). -/
  | kmadrs32 (rd rs1 rs2 : Reg)
  /-- KMAXDS32 (R532, RV64 only). -/
  | kmaxds32 (rd rs1 rs2 : Reg)
  /-- KMSDA32 (R533, RV64 only). -/
  | kmsda32 (rd rs1 rs2 : Reg)
  /-- KMSXDA32 (R534, RV64 only). -/
  | kmsxda32 (rd rs1 rs2 : Reg)
  /-- SMDS32 (R535, RV64 only). -/
  | smds32 (rd rs1 rs2 : Reg)
  /-- SMDRS32 (R536, RV64 only). -/
  | smdrs32 (rd rs1 rs2 : Reg)
  /-- SMXDS32 (R537, RV64 only). -/
  | smxds32 (rd rs1 rs2 : Reg)
  /-- SRAIW.u (R539, RV64 only). -/
  | sraiwU (rd rs1 : Reg) (imm : BitVec 5)
  /-- PKBB32 (R541, RV64 only, an assembler name for PACK rd, rs2, rs1). -/
  | pkbb32 (rd rs1 rs2 : Reg)
  /-- PKBT32 (R542, RV64 only). -/
  | pkbt32 (rd rs1 rs2 : Reg)
  /-- PKTB32 (R543, RV64 only). -/
  | pktb32 (rd rs1 rs2 : Reg)
  /-- PKTT32 (R544, RV64 only, an assembler name for PACKU rd, rs2, rs1). -/
  | pktt32 (rd rs1 rs2 : Reg)
deriving DecidableEq, Repr

/-- The rows of opcode_table.json without their operands. -/
inductive Row where
  | rdov | clrov | csrrw | csrrs | csrrc | csrrwi | csrrsi | csrrci | lw | sw | ld | sd | addi | lui | bne
  | clz | cmix | fsr | fsri | fsrw | max | min | pack | packu | revRv32 | revRv64 | rev8H | bpick | maxw
  | minw | add16 | radd16 | uradd16 | kadd16 | ukadd16 | sub16 | rsub16 | ursub16 | ksub16 | uksub16 | cras16
  | rcras16 | urcras16 | kcras16 | ukcras16 | crsa16 | rcrsa16 | urcrsa16 | kcrsa16 | ukcrsa16 | stas16
  | rstas16 | urstas16 | kstas16 | ukstas16 | stsa16 | rstsa16 | urstsa16 | kstsa16 | ukstsa16 | add8 | radd8
  | uradd8 | kadd8 | ukadd8 | sub8 | rsub8 | ursub8 | ksub8 | uksub8 | sra16 | srai16 | sra16U | srai16U
  | srl16 | srli16 | srl16U | srli16U | sll16 | slli16 | ksll16 | kslli16 | kslra16 | kslra16U | sra8 | srai8
  | sra8U | srai8U | srl8 | srli8 | srl8U | srli8U | sll8 | slli8 | ksll8 | kslli8 | kslra8 | kslra8U
  | cmpeq16 | scmplt16 | scmple16 | ucmplt16 | ucmple16 | cmpeq8 | scmplt8 | scmple8 | ucmplt8 | ucmple8
  | smin16 | umin16 | smax16 | umax16 | sclip16 | uclip16 | kabs16 | clrs16 | clz16 | swap16 | smin8 | umin8
  | smax8 | umax8 | kabs8 | sclip8 | uclip8 | clrs8 | clz8 | swap8 | sunpkd810 | sunpkd820 | sunpkd830
  | sunpkd831 | sunpkd832 | zunpkd810 | zunpkd820 | zunpkd830 | zunpkd831 | zunpkd832 | smul16 | smulx16
  | umul16 | umulx16 | khm16 | khmx16 | smul8 | smulx8 | umul8 | umulx8 | khm8 | khmx8 | pkbb16 | pkbt16
  | pktt16 | pktb16 | smmul | smmulRv32 | smmulU | kmmac | kmmacU | kmmsb | kmmsbU | kwmmul | kwmmulU | smmwb
  | smmwbU | smmwt | smmwtU | kmmawb | kmmawbU | kmmawt | kmmawtU | kmmwb2 | kmmwb2U | kmmwt2 | kmmwt2U
  | kmmawb2 | kmmawb2U | kmmawt2 | kmmawt2U | smbb16 | smbt16 | smtt16 | kmda | kmxda | smds | smdrs | smxds
  | kmabb | kmabt | kmatt | kmada | kmaxda | kmads | kmadrs | kmaxds | kmsda | kmsxda | smal | sclip32
  | uclip32 | clrs32 | clz32 | pbsad | pbsada | smaqa | umaqa | smaqaSu | add64 | radd64 | uradd64 | kadd64
  | ukadd64 | sub64 | rsub64 | ursub64 | ksub64 | uksub64 | smar64 | smsr64 | umar64 | umsr64 | kmar64
  | kmsr64 | ukmar64 | ukmsr64 | smalbb | smalbt | smaltt | smalda | smalxda | smalds | smaldrs | smalxds
  | smslda | smslxda | kaddh | ksubh | ukaddh | uksubh | khmbb | khmbt | khmtt | kaddw | ukaddw | ksubw
  | uksubw | kdmbb | kdmbt | kdmtt | kslraw | kslrawU | ksllw | kslliw | kdmabb | kdmabt | kdmatt | kabsw
  | raddw | uraddw | rsubw | ursubw | mulr64 | mulsr64 | msubr32 | ave | sraU | bitrev | bitreviRv32
  | bitreviRv64 | sraiURv32 | sraiURv64 | insbRv32 | insbRv64 | wext | wexti | maddr32 | add32 | radd32
  | uradd32 | kadd32 | ukadd32 | sub32 | rsub32 | ursub32 | ksub32 | uksub32 | cras32 | rcras32 | urcras32
  | kcras32 | ukcras32 | crsa32 | rcrsa32 | urcrsa32 | kcrsa32 | ukcrsa32 | stas32 | rstas32 | urstas32
  | kstas32 | ukstas32 | stsa32 | rstsa32 | urstsa32 | kstsa32 | ukstsa32 | sra32 | srai32 | sra32U | srai32U
  | srl32 | srli32 | srl32U | srli32U | sll32 | slli32 | ksll32 | kslli32 | kslra32 | kslra32U | smin32
  | umin32 | smax32 | umax32 | kabs32 | khmbb16 | khmbt16 | khmtt16 | kdmbb16 | kdmbt16 | kdmtt16 | kdmabb16
  | kdmabt16 | kdmatt16 | smbb32 | smbt32 | smtt32 | kmabb32 | kmabt32 | kmatt32 | kmda32 | kmxda32 | kmada32
  | kmaxda32 | kmads32 | kmadrs32 | kmaxds32 | kmsda32 | kmsxda32 | smds32 | smdrs32 | smxds32 | sraiwU
  | pkbb32 | pkbt32 | pktb32 | pktt32
deriving DecidableEq, Repr

/-- The row of an instruction. -/
def Instr.row : Instr → Row
  | .rdov _ => .rdov
  | .clrov => .clrov
  | .csrrw _ _ => .csrrw
  | .csrrs _ _ => .csrrs
  | .csrrc _ _ => .csrrc
  | .csrrwi _ _ => .csrrwi
  | .csrrsi _ _ => .csrrsi
  | .csrrci _ _ => .csrrci
  | .lw _ _ _ => .lw
  | .sw _ _ _ => .sw
  | .ld _ _ _ => .ld
  | .sd _ _ _ => .sd
  | .addi _ _ _ => .addi
  | .lui _ _ => .lui
  | .bne _ _ _ => .bne
  | .clz _ _ => .clz
  | .cmix _ _ _ _ => .cmix
  | .fsr _ _ _ _ => .fsr
  | .fsri _ _ _ _ => .fsri
  | .fsrw _ _ _ _ => .fsrw
  | .max _ _ _ => .max
  | .min _ _ _ => .min
  | .pack _ _ _ => .pack
  | .packu _ _ _ => .packu
  | .revRv32 _ _ => .revRv32
  | .revRv64 _ _ => .revRv64
  | .rev8H _ _ => .rev8H
  | .bpick _ _ _ _ => .bpick
  | .maxw _ _ _ => .maxw
  | .minw _ _ _ => .minw
  | .add16 _ _ _ => .add16
  | .radd16 _ _ _ => .radd16
  | .uradd16 _ _ _ => .uradd16
  | .kadd16 _ _ _ => .kadd16
  | .ukadd16 _ _ _ => .ukadd16
  | .sub16 _ _ _ => .sub16
  | .rsub16 _ _ _ => .rsub16
  | .ursub16 _ _ _ => .ursub16
  | .ksub16 _ _ _ => .ksub16
  | .uksub16 _ _ _ => .uksub16
  | .cras16 _ _ _ => .cras16
  | .rcras16 _ _ _ => .rcras16
  | .urcras16 _ _ _ => .urcras16
  | .kcras16 _ _ _ => .kcras16
  | .ukcras16 _ _ _ => .ukcras16
  | .crsa16 _ _ _ => .crsa16
  | .rcrsa16 _ _ _ => .rcrsa16
  | .urcrsa16 _ _ _ => .urcrsa16
  | .kcrsa16 _ _ _ => .kcrsa16
  | .ukcrsa16 _ _ _ => .ukcrsa16
  | .stas16 _ _ _ => .stas16
  | .rstas16 _ _ _ => .rstas16
  | .urstas16 _ _ _ => .urstas16
  | .kstas16 _ _ _ => .kstas16
  | .ukstas16 _ _ _ => .ukstas16
  | .stsa16 _ _ _ => .stsa16
  | .rstsa16 _ _ _ => .rstsa16
  | .urstsa16 _ _ _ => .urstsa16
  | .kstsa16 _ _ _ => .kstsa16
  | .ukstsa16 _ _ _ => .ukstsa16
  | .add8 _ _ _ => .add8
  | .radd8 _ _ _ => .radd8
  | .uradd8 _ _ _ => .uradd8
  | .kadd8 _ _ _ => .kadd8
  | .ukadd8 _ _ _ => .ukadd8
  | .sub8 _ _ _ => .sub8
  | .rsub8 _ _ _ => .rsub8
  | .ursub8 _ _ _ => .ursub8
  | .ksub8 _ _ _ => .ksub8
  | .uksub8 _ _ _ => .uksub8
  | .sra16 _ _ _ => .sra16
  | .srai16 _ _ _ => .srai16
  | .sra16U _ _ _ => .sra16U
  | .srai16U _ _ _ => .srai16U
  | .srl16 _ _ _ => .srl16
  | .srli16 _ _ _ => .srli16
  | .srl16U _ _ _ => .srl16U
  | .srli16U _ _ _ => .srli16U
  | .sll16 _ _ _ => .sll16
  | .slli16 _ _ _ => .slli16
  | .ksll16 _ _ _ => .ksll16
  | .kslli16 _ _ _ => .kslli16
  | .kslra16 _ _ _ => .kslra16
  | .kslra16U _ _ _ => .kslra16U
  | .sra8 _ _ _ => .sra8
  | .srai8 _ _ _ => .srai8
  | .sra8U _ _ _ => .sra8U
  | .srai8U _ _ _ => .srai8U
  | .srl8 _ _ _ => .srl8
  | .srli8 _ _ _ => .srli8
  | .srl8U _ _ _ => .srl8U
  | .srli8U _ _ _ => .srli8U
  | .sll8 _ _ _ => .sll8
  | .slli8 _ _ _ => .slli8
  | .ksll8 _ _ _ => .ksll8
  | .kslli8 _ _ _ => .kslli8
  | .kslra8 _ _ _ => .kslra8
  | .kslra8U _ _ _ => .kslra8U
  | .cmpeq16 _ _ _ => .cmpeq16
  | .scmplt16 _ _ _ => .scmplt16
  | .scmple16 _ _ _ => .scmple16
  | .ucmplt16 _ _ _ => .ucmplt16
  | .ucmple16 _ _ _ => .ucmple16
  | .cmpeq8 _ _ _ => .cmpeq8
  | .scmplt8 _ _ _ => .scmplt8
  | .scmple8 _ _ _ => .scmple8
  | .ucmplt8 _ _ _ => .ucmplt8
  | .ucmple8 _ _ _ => .ucmple8
  | .smin16 _ _ _ => .smin16
  | .umin16 _ _ _ => .umin16
  | .smax16 _ _ _ => .smax16
  | .umax16 _ _ _ => .umax16
  | .sclip16 _ _ _ => .sclip16
  | .uclip16 _ _ _ => .uclip16
  | .kabs16 _ _ => .kabs16
  | .clrs16 _ _ => .clrs16
  | .clz16 _ _ => .clz16
  | .swap16 _ _ => .swap16
  | .smin8 _ _ _ => .smin8
  | .umin8 _ _ _ => .umin8
  | .smax8 _ _ _ => .smax8
  | .umax8 _ _ _ => .umax8
  | .kabs8 _ _ => .kabs8
  | .sclip8 _ _ _ => .sclip8
  | .uclip8 _ _ _ => .uclip8
  | .clrs8 _ _ => .clrs8
  | .clz8 _ _ => .clz8
  | .swap8 _ _ => .swap8
  | .sunpkd810 _ _ => .sunpkd810
  | .sunpkd820 _ _ => .sunpkd820
  | .sunpkd830 _ _ => .sunpkd830
  | .sunpkd831 _ _ => .sunpkd831
  | .sunpkd832 _ _ => .sunpkd832
  | .zunpkd810 _ _ => .zunpkd810
  | .zunpkd820 _ _ => .zunpkd820
  | .zunpkd830 _ _ => .zunpkd830
  | .zunpkd831 _ _ => .zunpkd831
  | .zunpkd832 _ _ => .zunpkd832
  | .smul16 _ _ _ => .smul16
  | .smulx16 _ _ _ => .smulx16
  | .umul16 _ _ _ => .umul16
  | .umulx16 _ _ _ => .umulx16
  | .khm16 _ _ _ => .khm16
  | .khmx16 _ _ _ => .khmx16
  | .smul8 _ _ _ => .smul8
  | .smulx8 _ _ _ => .smulx8
  | .umul8 _ _ _ => .umul8
  | .umulx8 _ _ _ => .umulx8
  | .khm8 _ _ _ => .khm8
  | .khmx8 _ _ _ => .khmx8
  | .pkbb16 _ _ _ => .pkbb16
  | .pkbt16 _ _ _ => .pkbt16
  | .pktt16 _ _ _ => .pktt16
  | .pktb16 _ _ _ => .pktb16
  | .smmul _ _ _ => .smmul
  | .smmulRv32 _ _ _ => .smmulRv32
  | .smmulU _ _ _ => .smmulU
  | .kmmac _ _ _ => .kmmac
  | .kmmacU _ _ _ => .kmmacU
  | .kmmsb _ _ _ => .kmmsb
  | .kmmsbU _ _ _ => .kmmsbU
  | .kwmmul _ _ _ => .kwmmul
  | .kwmmulU _ _ _ => .kwmmulU
  | .smmwb _ _ _ => .smmwb
  | .smmwbU _ _ _ => .smmwbU
  | .smmwt _ _ _ => .smmwt
  | .smmwtU _ _ _ => .smmwtU
  | .kmmawb _ _ _ => .kmmawb
  | .kmmawbU _ _ _ => .kmmawbU
  | .kmmawt _ _ _ => .kmmawt
  | .kmmawtU _ _ _ => .kmmawtU
  | .kmmwb2 _ _ _ => .kmmwb2
  | .kmmwb2U _ _ _ => .kmmwb2U
  | .kmmwt2 _ _ _ => .kmmwt2
  | .kmmwt2U _ _ _ => .kmmwt2U
  | .kmmawb2 _ _ _ => .kmmawb2
  | .kmmawb2U _ _ _ => .kmmawb2U
  | .kmmawt2 _ _ _ => .kmmawt2
  | .kmmawt2U _ _ _ => .kmmawt2U
  | .smbb16 _ _ _ => .smbb16
  | .smbt16 _ _ _ => .smbt16
  | .smtt16 _ _ _ => .smtt16
  | .kmda _ _ _ => .kmda
  | .kmxda _ _ _ => .kmxda
  | .smds _ _ _ => .smds
  | .smdrs _ _ _ => .smdrs
  | .smxds _ _ _ => .smxds
  | .kmabb _ _ _ => .kmabb
  | .kmabt _ _ _ => .kmabt
  | .kmatt _ _ _ => .kmatt
  | .kmada _ _ _ => .kmada
  | .kmaxda _ _ _ => .kmaxda
  | .kmads _ _ _ => .kmads
  | .kmadrs _ _ _ => .kmadrs
  | .kmaxds _ _ _ => .kmaxds
  | .kmsda _ _ _ => .kmsda
  | .kmsxda _ _ _ => .kmsxda
  | .smal _ _ _ => .smal
  | .sclip32 _ _ _ => .sclip32
  | .uclip32 _ _ _ => .uclip32
  | .clrs32 _ _ => .clrs32
  | .clz32 _ _ => .clz32
  | .pbsad _ _ _ => .pbsad
  | .pbsada _ _ _ => .pbsada
  | .smaqa _ _ _ => .smaqa
  | .umaqa _ _ _ => .umaqa
  | .smaqaSu _ _ _ => .smaqaSu
  | .add64 _ _ _ => .add64
  | .radd64 _ _ _ => .radd64
  | .uradd64 _ _ _ => .uradd64
  | .kadd64 _ _ _ => .kadd64
  | .ukadd64 _ _ _ => .ukadd64
  | .sub64 _ _ _ => .sub64
  | .rsub64 _ _ _ => .rsub64
  | .ursub64 _ _ _ => .ursub64
  | .ksub64 _ _ _ => .ksub64
  | .uksub64 _ _ _ => .uksub64
  | .smar64 _ _ _ => .smar64
  | .smsr64 _ _ _ => .smsr64
  | .umar64 _ _ _ => .umar64
  | .umsr64 _ _ _ => .umsr64
  | .kmar64 _ _ _ => .kmar64
  | .kmsr64 _ _ _ => .kmsr64
  | .ukmar64 _ _ _ => .ukmar64
  | .ukmsr64 _ _ _ => .ukmsr64
  | .smalbb _ _ _ => .smalbb
  | .smalbt _ _ _ => .smalbt
  | .smaltt _ _ _ => .smaltt
  | .smalda _ _ _ => .smalda
  | .smalxda _ _ _ => .smalxda
  | .smalds _ _ _ => .smalds
  | .smaldrs _ _ _ => .smaldrs
  | .smalxds _ _ _ => .smalxds
  | .smslda _ _ _ => .smslda
  | .smslxda _ _ _ => .smslxda
  | .kaddh _ _ _ => .kaddh
  | .ksubh _ _ _ => .ksubh
  | .ukaddh _ _ _ => .ukaddh
  | .uksubh _ _ _ => .uksubh
  | .khmbb _ _ _ => .khmbb
  | .khmbt _ _ _ => .khmbt
  | .khmtt _ _ _ => .khmtt
  | .kaddw _ _ _ => .kaddw
  | .ukaddw _ _ _ => .ukaddw
  | .ksubw _ _ _ => .ksubw
  | .uksubw _ _ _ => .uksubw
  | .kdmbb _ _ _ => .kdmbb
  | .kdmbt _ _ _ => .kdmbt
  | .kdmtt _ _ _ => .kdmtt
  | .kslraw _ _ _ => .kslraw
  | .kslrawU _ _ _ => .kslrawU
  | .ksllw _ _ _ => .ksllw
  | .kslliw _ _ _ => .kslliw
  | .kdmabb _ _ _ => .kdmabb
  | .kdmabt _ _ _ => .kdmabt
  | .kdmatt _ _ _ => .kdmatt
  | .kabsw _ _ => .kabsw
  | .raddw _ _ _ => .raddw
  | .uraddw _ _ _ => .uraddw
  | .rsubw _ _ _ => .rsubw
  | .ursubw _ _ _ => .ursubw
  | .mulr64 _ _ _ => .mulr64
  | .mulsr64 _ _ _ => .mulsr64
  | .msubr32 _ _ _ => .msubr32
  | .ave _ _ _ => .ave
  | .sraU _ _ _ => .sraU
  | .bitrev _ _ _ => .bitrev
  | .bitreviRv32 _ _ _ => .bitreviRv32
  | .bitreviRv64 _ _ _ => .bitreviRv64
  | .sraiURv32 _ _ _ => .sraiURv32
  | .sraiURv64 _ _ _ => .sraiURv64
  | .insbRv32 _ _ _ => .insbRv32
  | .insbRv64 _ _ _ => .insbRv64
  | .wext _ _ _ => .wext
  | .wexti _ _ _ => .wexti
  | .maddr32 _ _ _ => .maddr32
  | .add32 _ _ _ => .add32
  | .radd32 _ _ _ => .radd32
  | .uradd32 _ _ _ => .uradd32
  | .kadd32 _ _ _ => .kadd32
  | .ukadd32 _ _ _ => .ukadd32
  | .sub32 _ _ _ => .sub32
  | .rsub32 _ _ _ => .rsub32
  | .ursub32 _ _ _ => .ursub32
  | .ksub32 _ _ _ => .ksub32
  | .uksub32 _ _ _ => .uksub32
  | .cras32 _ _ _ => .cras32
  | .rcras32 _ _ _ => .rcras32
  | .urcras32 _ _ _ => .urcras32
  | .kcras32 _ _ _ => .kcras32
  | .ukcras32 _ _ _ => .ukcras32
  | .crsa32 _ _ _ => .crsa32
  | .rcrsa32 _ _ _ => .rcrsa32
  | .urcrsa32 _ _ _ => .urcrsa32
  | .kcrsa32 _ _ _ => .kcrsa32
  | .ukcrsa32 _ _ _ => .ukcrsa32
  | .stas32 _ _ _ => .stas32
  | .rstas32 _ _ _ => .rstas32
  | .urstas32 _ _ _ => .urstas32
  | .kstas32 _ _ _ => .kstas32
  | .ukstas32 _ _ _ => .ukstas32
  | .stsa32 _ _ _ => .stsa32
  | .rstsa32 _ _ _ => .rstsa32
  | .urstsa32 _ _ _ => .urstsa32
  | .kstsa32 _ _ _ => .kstsa32
  | .ukstsa32 _ _ _ => .ukstsa32
  | .sra32 _ _ _ => .sra32
  | .srai32 _ _ _ => .srai32
  | .sra32U _ _ _ => .sra32U
  | .srai32U _ _ _ => .srai32U
  | .srl32 _ _ _ => .srl32
  | .srli32 _ _ _ => .srli32
  | .srl32U _ _ _ => .srl32U
  | .srli32U _ _ _ => .srli32U
  | .sll32 _ _ _ => .sll32
  | .slli32 _ _ _ => .slli32
  | .ksll32 _ _ _ => .ksll32
  | .kslli32 _ _ _ => .kslli32
  | .kslra32 _ _ _ => .kslra32
  | .kslra32U _ _ _ => .kslra32U
  | .smin32 _ _ _ => .smin32
  | .umin32 _ _ _ => .umin32
  | .smax32 _ _ _ => .smax32
  | .umax32 _ _ _ => .umax32
  | .kabs32 _ _ => .kabs32
  | .khmbb16 _ _ _ => .khmbb16
  | .khmbt16 _ _ _ => .khmbt16
  | .khmtt16 _ _ _ => .khmtt16
  | .kdmbb16 _ _ _ => .kdmbb16
  | .kdmbt16 _ _ _ => .kdmbt16
  | .kdmtt16 _ _ _ => .kdmtt16
  | .kdmabb16 _ _ _ => .kdmabb16
  | .kdmabt16 _ _ _ => .kdmabt16
  | .kdmatt16 _ _ _ => .kdmatt16
  | .smbb32 _ _ _ => .smbb32
  | .smbt32 _ _ _ => .smbt32
  | .smtt32 _ _ _ => .smtt32
  | .kmabb32 _ _ _ => .kmabb32
  | .kmabt32 _ _ _ => .kmabt32
  | .kmatt32 _ _ _ => .kmatt32
  | .kmda32 _ _ _ => .kmda32
  | .kmxda32 _ _ _ => .kmxda32
  | .kmada32 _ _ _ => .kmada32
  | .kmaxda32 _ _ _ => .kmaxda32
  | .kmads32 _ _ _ => .kmads32
  | .kmadrs32 _ _ _ => .kmadrs32
  | .kmaxds32 _ _ _ => .kmaxds32
  | .kmsda32 _ _ _ => .kmsda32
  | .kmsxda32 _ _ _ => .kmsxda32
  | .smds32 _ _ _ => .smds32
  | .smdrs32 _ _ _ => .smdrs32
  | .smxds32 _ _ _ => .smxds32
  | .sraiwU _ _ _ => .sraiwU
  | .pkbb32 _ _ _ => .pkbb32
  | .pkbt32 _ _ _ => .pkbt32
  | .pktb32 _ _ _ => .pktb32
  | .pktt32 _ _ _ => .pktt32

end Sys2Proof
end

