-- ==== Sys2Proof/Machine/Availability.lean ====
section
/-!
DEFINITION. Which instructions a configuration has (rules R4, R70, R71, R551), which fields name register pairs
on RV32 (rule R22, the `rv32_pair` lists of opcode_table.json), and which instructions access `vxsat`
(rules R552, R555).
-/

namespace Sys2Proof.Machine

/-- How an opcode-table row stands at one XLEN (rules R70, R71, R551). -/
inductive Presence where
  /-- The row is an instruction at this XLEN. -/
  | present
  /-- The row is marked replaced at this XLEN: an instruction only with `KEEP_REPLACED_ENCODINGS` (D15). -/
  | replaced
  /-- The row is marked removed: never an instruction (R114, D14). -/
  | removed
  /-- The row does not exist at this XLEN (R71). -/
  | absent
deriving DecidableEq, Repr

/-- The fields of a row that name a 64-bit operand, a register pair on RV32 (rule R22): its `rv32_pair` list. -/
inductive PairFields where
  | none
  | rd
  | rs1
  | rdRs1
  | rdRs1Rs2
deriving DecidableEq, Repr

/-- What an instruction has to do with `vxsat` (rules R552, R555). -/
inductive VxsatUse where
  /-- It does not touch `vxsat`. -/
  | none
  /-- It is one of the 134 instructions that can set `OV` (R555). -/
  | mayClip
  /-- It is RDOV, CLROV or a CSR instruction on 0x009. -/
  | csr
deriving DecidableEq, Repr

/-- What the opcode table says of a row besides its bits. -/
structure RowInfo where
  rv32 : Presence
  rv64 : Presence
  /-- The row belongs to Zpsfoperand (rule R4; WEXT by rule R441, log entry 12). -/
  zpsf : Bool
  pairs : PairFields
  vxsat : VxsatUse
deriving DecidableEq, Repr

/-- The marks of a row of opcode_table.json: its `xlen`, `replaced` and `removed` marks, its sub-extension, its
`rv32_pair` list, and its class under rule R555. -/
def rowInfo : Row → RowInfo
  | .rdov => ⟨.present, .present, false, .none, .csr⟩
  | .clrov => ⟨.present, .present, false, .none, .csr⟩
  | .csrrw => ⟨.present, .present, false, .none, .csr⟩
  | .csrrs => ⟨.present, .present, false, .none, .csr⟩
  | .csrrc => ⟨.present, .present, false, .none, .csr⟩
  | .csrrwi => ⟨.present, .present, false, .none, .csr⟩
  | .csrrsi => ⟨.present, .present, false, .none, .csr⟩
  | .csrrci => ⟨.present, .present, false, .none, .csr⟩
  | .lw => ⟨.present, .present, false, .none, .none⟩
  | .sw => ⟨.present, .present, false, .none, .none⟩
  | .ld => ⟨.absent, .present, false, .none, .none⟩
  | .sd => ⟨.absent, .present, false, .none, .none⟩
  | .addi => ⟨.present, .present, false, .none, .none⟩
  | .lui => ⟨.present, .present, false, .none, .none⟩
  | .bne => ⟨.present, .present, false, .none, .none⟩
  | .clz => ⟨.present, .absent, false, .none, .none⟩
  | .cmix => ⟨.present, .present, false, .none, .none⟩
  | .fsr => ⟨.present, .absent, false, .none, .none⟩
  | .fsri => ⟨.present, .absent, false, .none, .none⟩
  | .fsrw => ⟨.absent, .present, false, .none, .none⟩
  | .max => ⟨.present, .present, false, .none, .none⟩
  | .min => ⟨.present, .present, false, .none, .none⟩
  | .pack => ⟨.present, .present, false, .none, .none⟩
  | .packu => ⟨.present, .present, false, .none, .none⟩
  | .revRv32 => ⟨.present, .absent, false, .none, .none⟩
  | .revRv64 => ⟨.absent, .present, false, .none, .none⟩
  | .rev8H => ⟨.present, .present, false, .none, .none⟩
  | .bpick => ⟨.removed, .removed, false, .none, .none⟩
  | .maxw => ⟨.removed, .removed, false, .none, .none⟩
  | .minw => ⟨.removed, .removed, false, .none, .none⟩
  | .add16 => ⟨.present, .present, false, .none, .none⟩
  | .radd16 => ⟨.present, .present, false, .none, .none⟩
  | .uradd16 => ⟨.present, .present, false, .none, .none⟩
  | .kadd16 => ⟨.present, .present, false, .none, .mayClip⟩
  | .ukadd16 => ⟨.present, .present, false, .none, .mayClip⟩
  | .sub16 => ⟨.present, .present, false, .none, .none⟩
  | .rsub16 => ⟨.present, .present, false, .none, .none⟩
  | .ursub16 => ⟨.present, .present, false, .none, .none⟩
  | .ksub16 => ⟨.present, .present, false, .none, .mayClip⟩
  | .uksub16 => ⟨.present, .present, false, .none, .mayClip⟩
  | .cras16 => ⟨.present, .present, false, .none, .none⟩
  | .rcras16 => ⟨.present, .present, false, .none, .none⟩
  | .urcras16 => ⟨.present, .present, false, .none, .none⟩
  | .kcras16 => ⟨.present, .present, false, .none, .mayClip⟩
  | .ukcras16 => ⟨.present, .present, false, .none, .mayClip⟩
  | .crsa16 => ⟨.present, .present, false, .none, .none⟩
  | .rcrsa16 => ⟨.present, .present, false, .none, .none⟩
  | .urcrsa16 => ⟨.present, .present, false, .none, .none⟩
  | .kcrsa16 => ⟨.present, .present, false, .none, .mayClip⟩
  | .ukcrsa16 => ⟨.present, .present, false, .none, .mayClip⟩
  | .stas16 => ⟨.present, .present, false, .none, .none⟩
  | .rstas16 => ⟨.present, .present, false, .none, .none⟩
  | .urstas16 => ⟨.present, .present, false, .none, .none⟩
  | .kstas16 => ⟨.present, .present, false, .none, .mayClip⟩
  | .ukstas16 => ⟨.present, .present, false, .none, .mayClip⟩
  | .stsa16 => ⟨.present, .present, false, .none, .none⟩
  | .rstsa16 => ⟨.present, .present, false, .none, .none⟩
  | .urstsa16 => ⟨.present, .present, false, .none, .none⟩
  | .kstsa16 => ⟨.present, .present, false, .none, .mayClip⟩
  | .ukstsa16 => ⟨.present, .present, false, .none, .mayClip⟩
  | .add8 => ⟨.present, .present, false, .none, .none⟩
  | .radd8 => ⟨.present, .present, false, .none, .none⟩
  | .uradd8 => ⟨.present, .present, false, .none, .none⟩
  | .kadd8 => ⟨.present, .present, false, .none, .mayClip⟩
  | .ukadd8 => ⟨.present, .present, false, .none, .mayClip⟩
  | .sub8 => ⟨.present, .present, false, .none, .none⟩
  | .rsub8 => ⟨.present, .present, false, .none, .none⟩
  | .ursub8 => ⟨.present, .present, false, .none, .none⟩
  | .ksub8 => ⟨.present, .present, false, .none, .mayClip⟩
  | .uksub8 => ⟨.present, .present, false, .none, .mayClip⟩
  | .sra16 => ⟨.present, .present, false, .none, .none⟩
  | .srai16 => ⟨.present, .present, false, .none, .none⟩
  | .sra16U => ⟨.present, .present, false, .none, .none⟩
  | .srai16U => ⟨.present, .present, false, .none, .none⟩
  | .srl16 => ⟨.present, .present, false, .none, .none⟩
  | .srli16 => ⟨.present, .present, false, .none, .none⟩
  | .srl16U => ⟨.present, .present, false, .none, .none⟩
  | .srli16U => ⟨.present, .present, false, .none, .none⟩
  | .sll16 => ⟨.present, .present, false, .none, .none⟩
  | .slli16 => ⟨.present, .present, false, .none, .none⟩
  | .ksll16 => ⟨.present, .present, false, .none, .mayClip⟩
  | .kslli16 => ⟨.present, .present, false, .none, .mayClip⟩
  | .kslra16 => ⟨.present, .present, false, .none, .mayClip⟩
  | .kslra16U => ⟨.present, .present, false, .none, .mayClip⟩
  | .sra8 => ⟨.present, .present, false, .none, .none⟩
  | .srai8 => ⟨.present, .present, false, .none, .none⟩
  | .sra8U => ⟨.present, .present, false, .none, .none⟩
  | .srai8U => ⟨.present, .present, false, .none, .none⟩
  | .srl8 => ⟨.present, .present, false, .none, .none⟩
  | .srli8 => ⟨.present, .present, false, .none, .none⟩
  | .srl8U => ⟨.present, .present, false, .none, .none⟩
  | .srli8U => ⟨.present, .present, false, .none, .none⟩
  | .sll8 => ⟨.present, .present, false, .none, .none⟩
  | .slli8 => ⟨.present, .present, false, .none, .none⟩
  | .ksll8 => ⟨.present, .present, false, .none, .mayClip⟩
  | .kslli8 => ⟨.present, .present, false, .none, .mayClip⟩
  | .kslra8 => ⟨.present, .present, false, .none, .mayClip⟩
  | .kslra8U => ⟨.present, .present, false, .none, .mayClip⟩
  | .cmpeq16 => ⟨.present, .present, false, .none, .none⟩
  | .scmplt16 => ⟨.present, .present, false, .none, .none⟩
  | .scmple16 => ⟨.present, .present, false, .none, .none⟩
  | .ucmplt16 => ⟨.present, .present, false, .none, .none⟩
  | .ucmple16 => ⟨.present, .present, false, .none, .none⟩
  | .cmpeq8 => ⟨.present, .present, false, .none, .none⟩
  | .scmplt8 => ⟨.present, .present, false, .none, .none⟩
  | .scmple8 => ⟨.present, .present, false, .none, .none⟩
  | .ucmplt8 => ⟨.present, .present, false, .none, .none⟩
  | .ucmple8 => ⟨.present, .present, false, .none, .none⟩
  | .smin16 => ⟨.present, .present, false, .none, .none⟩
  | .umin16 => ⟨.present, .present, false, .none, .none⟩
  | .smax16 => ⟨.present, .present, false, .none, .none⟩
  | .umax16 => ⟨.present, .present, false, .none, .none⟩
  | .sclip16 => ⟨.present, .present, false, .none, .mayClip⟩
  | .uclip16 => ⟨.present, .present, false, .none, .mayClip⟩
  | .kabs16 => ⟨.present, .present, false, .none, .mayClip⟩
  | .clrs16 => ⟨.present, .present, false, .none, .none⟩
  | .clz16 => ⟨.present, .present, false, .none, .none⟩
  | .swap16 => ⟨.present, .present, false, .none, .none⟩
  | .smin8 => ⟨.present, .present, false, .none, .none⟩
  | .umin8 => ⟨.present, .present, false, .none, .none⟩
  | .smax8 => ⟨.present, .present, false, .none, .none⟩
  | .umax8 => ⟨.present, .present, false, .none, .none⟩
  | .kabs8 => ⟨.present, .present, false, .none, .mayClip⟩
  | .sclip8 => ⟨.present, .present, false, .none, .mayClip⟩
  | .uclip8 => ⟨.present, .present, false, .none, .mayClip⟩
  | .clrs8 => ⟨.present, .present, false, .none, .none⟩
  | .clz8 => ⟨.present, .present, false, .none, .none⟩
  | .swap8 => ⟨.replaced, .replaced, false, .none, .none⟩
  | .sunpkd810 => ⟨.present, .present, false, .none, .none⟩
  | .sunpkd820 => ⟨.present, .present, false, .none, .none⟩
  | .sunpkd830 => ⟨.present, .present, false, .none, .none⟩
  | .sunpkd831 => ⟨.present, .present, false, .none, .none⟩
  | .sunpkd832 => ⟨.present, .present, false, .none, .none⟩
  | .zunpkd810 => ⟨.present, .present, false, .none, .none⟩
  | .zunpkd820 => ⟨.present, .present, false, .none, .none⟩
  | .zunpkd830 => ⟨.present, .present, false, .none, .none⟩
  | .zunpkd831 => ⟨.present, .present, false, .none, .none⟩
  | .zunpkd832 => ⟨.present, .present, false, .none, .none⟩
  | .smul16 => ⟨.present, .present, true, .rd, .none⟩
  | .smulx16 => ⟨.present, .present, true, .rd, .none⟩
  | .umul16 => ⟨.present, .present, true, .rd, .none⟩
  | .umulx16 => ⟨.present, .present, true, .rd, .none⟩
  | .khm16 => ⟨.present, .present, false, .none, .mayClip⟩
  | .khmx16 => ⟨.present, .present, false, .none, .mayClip⟩
  | .smul8 => ⟨.present, .present, true, .rd, .none⟩
  | .smulx8 => ⟨.present, .present, true, .rd, .none⟩
  | .umul8 => ⟨.present, .present, true, .rd, .none⟩
  | .umulx8 => ⟨.present, .present, true, .rd, .none⟩
  | .khm8 => ⟨.present, .present, false, .none, .mayClip⟩
  | .khmx8 => ⟨.present, .present, false, .none, .mayClip⟩
  | .pkbb16 => ⟨.replaced, .present, false, .none, .none⟩
  | .pkbt16 => ⟨.present, .present, false, .none, .none⟩
  | .pktt16 => ⟨.replaced, .present, false, .none, .none⟩
  | .pktb16 => ⟨.present, .present, false, .none, .none⟩
  | .smmul => ⟨.replaced, .present, false, .none, .none⟩
  | .smmulRv32 => ⟨.present, .absent, false, .none, .none⟩
  | .smmulU => ⟨.present, .present, false, .none, .none⟩
  | .kmmac => ⟨.present, .present, false, .none, .mayClip⟩
  | .kmmacU => ⟨.present, .present, false, .none, .mayClip⟩
  | .kmmsb => ⟨.present, .present, false, .none, .mayClip⟩
  | .kmmsbU => ⟨.present, .present, false, .none, .mayClip⟩
  | .kwmmul => ⟨.present, .present, false, .none, .mayClip⟩
  | .kwmmulU => ⟨.present, .present, false, .none, .mayClip⟩
  | .smmwb => ⟨.present, .present, false, .none, .none⟩
  | .smmwbU => ⟨.present, .present, false, .none, .none⟩
  | .smmwt => ⟨.present, .present, false, .none, .none⟩
  | .smmwtU => ⟨.present, .present, false, .none, .none⟩
  | .kmmawb => ⟨.present, .present, false, .none, .mayClip⟩
  | .kmmawbU => ⟨.present, .present, false, .none, .mayClip⟩
  | .kmmawt => ⟨.present, .present, false, .none, .mayClip⟩
  | .kmmawtU => ⟨.present, .present, false, .none, .mayClip⟩
  | .kmmwb2 => ⟨.present, .present, false, .none, .mayClip⟩
  | .kmmwb2U => ⟨.present, .present, false, .none, .mayClip⟩
  | .kmmwt2 => ⟨.present, .present, false, .none, .mayClip⟩
  | .kmmwt2U => ⟨.present, .present, false, .none, .mayClip⟩
  | .kmmawb2 => ⟨.present, .present, false, .none, .mayClip⟩
  | .kmmawb2U => ⟨.present, .present, false, .none, .mayClip⟩
  | .kmmawt2 => ⟨.present, .present, false, .none, .mayClip⟩
  | .kmmawt2U => ⟨.present, .present, false, .none, .mayClip⟩
  | .smbb16 => ⟨.present, .present, false, .none, .none⟩
  | .smbt16 => ⟨.present, .present, false, .none, .none⟩
  | .smtt16 => ⟨.present, .present, false, .none, .none⟩
  | .kmda => ⟨.present, .present, false, .none, .mayClip⟩
  | .kmxda => ⟨.present, .present, false, .none, .mayClip⟩
  | .smds => ⟨.present, .present, false, .none, .none⟩
  | .smdrs => ⟨.present, .present, false, .none, .none⟩
  | .smxds => ⟨.present, .present, false, .none, .none⟩
  | .kmabb => ⟨.present, .present, false, .none, .mayClip⟩
  | .kmabt => ⟨.present, .present, false, .none, .mayClip⟩
  | .kmatt => ⟨.present, .present, false, .none, .mayClip⟩
  | .kmada => ⟨.present, .present, false, .none, .mayClip⟩
  | .kmaxda => ⟨.present, .present, false, .none, .mayClip⟩
  | .kmads => ⟨.present, .present, false, .none, .mayClip⟩
  | .kmadrs => ⟨.present, .present, false, .none, .mayClip⟩
  | .kmaxds => ⟨.present, .present, false, .none, .mayClip⟩
  | .kmsda => ⟨.present, .present, false, .none, .mayClip⟩
  | .kmsxda => ⟨.present, .present, false, .none, .mayClip⟩
  | .smal => ⟨.present, .present, true, .rdRs1, .none⟩
  | .sclip32 => ⟨.present, .present, false, .none, .mayClip⟩
  | .uclip32 => ⟨.present, .present, false, .none, .mayClip⟩
  | .clrs32 => ⟨.present, .present, false, .none, .none⟩
  | .clz32 => ⟨.replaced, .present, false, .none, .none⟩
  | .pbsad => ⟨.present, .present, false, .none, .none⟩
  | .pbsada => ⟨.present, .present, false, .none, .none⟩
  | .smaqa => ⟨.present, .present, false, .none, .none⟩
  | .umaqa => ⟨.present, .present, false, .none, .none⟩
  | .smaqaSu => ⟨.present, .present, false, .none, .none⟩
  | .add64 => ⟨.present, .absent, true, .rdRs1Rs2, .none⟩
  | .radd64 => ⟨.present, .present, true, .rdRs1Rs2, .none⟩
  | .uradd64 => ⟨.present, .present, true, .rdRs1Rs2, .none⟩
  | .kadd64 => ⟨.present, .present, true, .rdRs1Rs2, .mayClip⟩
  | .ukadd64 => ⟨.present, .present, true, .rdRs1Rs2, .mayClip⟩
  | .sub64 => ⟨.present, .absent, true, .rdRs1Rs2, .none⟩
  | .rsub64 => ⟨.present, .present, true, .rdRs1Rs2, .none⟩
  | .ursub64 => ⟨.present, .present, true, .rdRs1Rs2, .none⟩
  | .ksub64 => ⟨.present, .present, true, .rdRs1Rs2, .mayClip⟩
  | .uksub64 => ⟨.present, .present, true, .rdRs1Rs2, .mayClip⟩
  | .smar64 => ⟨.present, .present, true, .rd, .none⟩
  | .smsr64 => ⟨.present, .present, true, .rd, .none⟩
  | .umar64 => ⟨.present, .present, true, .rd, .none⟩
  | .umsr64 => ⟨.present, .present, true, .rd, .none⟩
  | .kmar64 => ⟨.present, .present, true, .rd, .mayClip⟩
  | .kmsr64 => ⟨.present, .present, true, .rd, .mayClip⟩
  | .ukmar64 => ⟨.present, .present, true, .rd, .mayClip⟩
  | .ukmsr64 => ⟨.present, .present, true, .rd, .mayClip⟩
  | .smalbb => ⟨.present, .present, true, .rd, .none⟩
  | .smalbt => ⟨.present, .present, true, .rd, .none⟩
  | .smaltt => ⟨.present, .present, true, .rd, .none⟩
  | .smalda => ⟨.present, .present, true, .rd, .none⟩
  | .smalxda => ⟨.present, .present, true, .rd, .none⟩
  | .smalds => ⟨.present, .present, true, .rd, .none⟩
  | .smaldrs => ⟨.present, .present, true, .rd, .none⟩
  | .smalxds => ⟨.present, .present, true, .rd, .none⟩
  | .smslda => ⟨.present, .present, true, .rd, .none⟩
  | .smslxda => ⟨.present, .present, true, .rd, .none⟩
  | .kaddh => ⟨.present, .present, false, .none, .mayClip⟩
  | .ksubh => ⟨.present, .present, false, .none, .mayClip⟩
  | .ukaddh => ⟨.present, .present, false, .none, .mayClip⟩
  | .uksubh => ⟨.present, .present, false, .none, .mayClip⟩
  | .khmbb => ⟨.present, .present, false, .none, .mayClip⟩
  | .khmbt => ⟨.present, .present, false, .none, .mayClip⟩
  | .khmtt => ⟨.present, .present, false, .none, .mayClip⟩
  | .kaddw => ⟨.present, .present, false, .none, .mayClip⟩
  | .ukaddw => ⟨.present, .present, false, .none, .mayClip⟩
  | .ksubw => ⟨.present, .present, false, .none, .mayClip⟩
  | .uksubw => ⟨.present, .present, false, .none, .mayClip⟩
  | .kdmbb => ⟨.present, .present, false, .none, .mayClip⟩
  | .kdmbt => ⟨.present, .present, false, .none, .mayClip⟩
  | .kdmtt => ⟨.present, .present, false, .none, .mayClip⟩
  | .kslraw => ⟨.present, .present, false, .none, .mayClip⟩
  | .kslrawU => ⟨.present, .present, false, .none, .mayClip⟩
  | .ksllw => ⟨.present, .present, false, .none, .mayClip⟩
  | .kslliw => ⟨.present, .present, false, .none, .mayClip⟩
  | .kdmabb => ⟨.present, .present, false, .none, .mayClip⟩
  | .kdmabt => ⟨.present, .present, false, .none, .mayClip⟩
  | .kdmatt => ⟨.present, .present, false, .none, .mayClip⟩
  | .kabsw => ⟨.present, .present, false, .none, .mayClip⟩
  | .raddw => ⟨.present, .present, false, .none, .none⟩
  | .uraddw => ⟨.present, .present, false, .none, .none⟩
  | .rsubw => ⟨.present, .present, false, .none, .none⟩
  | .ursubw => ⟨.present, .present, false, .none, .none⟩
  | .mulr64 => ⟨.present, .present, true, .rd, .none⟩
  | .mulsr64 => ⟨.present, .present, true, .rd, .none⟩
  | .msubr32 => ⟨.present, .present, false, .none, .none⟩
  | .ave => ⟨.present, .present, false, .none, .none⟩
  | .sraU => ⟨.present, .present, false, .none, .none⟩
  | .bitrev => ⟨.replaced, .replaced, false, .none, .none⟩
  | .bitreviRv32 => ⟨.replaced, .absent, false, .none, .none⟩
  | .bitreviRv64 => ⟨.absent, .replaced, false, .none, .none⟩
  | .sraiURv32 => ⟨.present, .absent, false, .none, .none⟩
  | .sraiURv64 => ⟨.absent, .present, false, .none, .none⟩
  | .insbRv32 => ⟨.present, .absent, false, .none, .none⟩
  | .insbRv64 => ⟨.absent, .present, false, .none, .none⟩
  | .wext => ⟨.replaced, .replaced, true, .rs1, .none⟩
  | .wexti => ⟨.replaced, .present, true, .rs1, .none⟩
  | .maddr32 => ⟨.present, .present, false, .none, .none⟩
  | .add32 => ⟨.absent, .present, false, .none, .none⟩
  | .radd32 => ⟨.absent, .present, false, .none, .none⟩
  | .uradd32 => ⟨.absent, .present, false, .none, .none⟩
  | .kadd32 => ⟨.absent, .present, false, .none, .mayClip⟩
  | .ukadd32 => ⟨.absent, .present, false, .none, .mayClip⟩
  | .sub32 => ⟨.absent, .present, false, .none, .none⟩
  | .rsub32 => ⟨.absent, .present, false, .none, .none⟩
  | .ursub32 => ⟨.absent, .present, false, .none, .none⟩
  | .ksub32 => ⟨.absent, .present, false, .none, .mayClip⟩
  | .uksub32 => ⟨.absent, .present, false, .none, .mayClip⟩
  | .cras32 => ⟨.absent, .present, false, .none, .none⟩
  | .rcras32 => ⟨.absent, .present, false, .none, .none⟩
  | .urcras32 => ⟨.absent, .present, false, .none, .none⟩
  | .kcras32 => ⟨.absent, .present, false, .none, .mayClip⟩
  | .ukcras32 => ⟨.absent, .present, false, .none, .mayClip⟩
  | .crsa32 => ⟨.absent, .present, false, .none, .none⟩
  | .rcrsa32 => ⟨.absent, .present, false, .none, .none⟩
  | .urcrsa32 => ⟨.absent, .present, false, .none, .none⟩
  | .kcrsa32 => ⟨.absent, .present, false, .none, .mayClip⟩
  | .ukcrsa32 => ⟨.absent, .present, false, .none, .mayClip⟩
  | .stas32 => ⟨.absent, .present, false, .none, .none⟩
  | .rstas32 => ⟨.absent, .present, false, .none, .none⟩
  | .urstas32 => ⟨.absent, .present, false, .none, .none⟩
  | .kstas32 => ⟨.absent, .present, false, .none, .mayClip⟩
  | .ukstas32 => ⟨.absent, .present, false, .none, .mayClip⟩
  | .stsa32 => ⟨.absent, .present, false, .none, .none⟩
  | .rstsa32 => ⟨.absent, .present, false, .none, .none⟩
  | .urstsa32 => ⟨.absent, .present, false, .none, .none⟩
  | .kstsa32 => ⟨.absent, .present, false, .none, .mayClip⟩
  | .ukstsa32 => ⟨.absent, .present, false, .none, .mayClip⟩
  | .sra32 => ⟨.absent, .present, false, .none, .none⟩
  | .srai32 => ⟨.absent, .present, false, .none, .none⟩
  | .sra32U => ⟨.absent, .present, false, .none, .none⟩
  | .srai32U => ⟨.absent, .present, false, .none, .none⟩
  | .srl32 => ⟨.absent, .present, false, .none, .none⟩
  | .srli32 => ⟨.absent, .present, false, .none, .none⟩
  | .srl32U => ⟨.absent, .present, false, .none, .none⟩
  | .srli32U => ⟨.absent, .present, false, .none, .none⟩
  | .sll32 => ⟨.absent, .present, false, .none, .none⟩
  | .slli32 => ⟨.absent, .present, false, .none, .none⟩
  | .ksll32 => ⟨.absent, .present, false, .none, .mayClip⟩
  | .kslli32 => ⟨.absent, .present, false, .none, .mayClip⟩
  | .kslra32 => ⟨.absent, .present, false, .none, .mayClip⟩
  | .kslra32U => ⟨.absent, .present, false, .none, .mayClip⟩
  | .smin32 => ⟨.absent, .present, false, .none, .none⟩
  | .umin32 => ⟨.absent, .present, false, .none, .none⟩
  | .smax32 => ⟨.absent, .present, false, .none, .none⟩
  | .umax32 => ⟨.absent, .present, false, .none, .none⟩
  | .kabs32 => ⟨.absent, .present, false, .none, .mayClip⟩
  | .khmbb16 => ⟨.absent, .present, false, .none, .mayClip⟩
  | .khmbt16 => ⟨.absent, .present, false, .none, .mayClip⟩
  | .khmtt16 => ⟨.absent, .present, false, .none, .mayClip⟩
  | .kdmbb16 => ⟨.absent, .present, false, .none, .mayClip⟩
  | .kdmbt16 => ⟨.absent, .present, false, .none, .mayClip⟩
  | .kdmtt16 => ⟨.absent, .present, false, .none, .mayClip⟩
  | .kdmabb16 => ⟨.absent, .present, false, .none, .mayClip⟩
  | .kdmabt16 => ⟨.absent, .present, false, .none, .mayClip⟩
  | .kdmatt16 => ⟨.absent, .present, false, .none, .mayClip⟩
  | .smbb32 => ⟨.absent, .present, true, .none, .none⟩
  | .smbt32 => ⟨.absent, .present, false, .none, .none⟩
  | .smtt32 => ⟨.absent, .present, false, .none, .none⟩
  | .kmabb32 => ⟨.absent, .present, false, .none, .mayClip⟩
  | .kmabt32 => ⟨.absent, .present, false, .none, .mayClip⟩
  | .kmatt32 => ⟨.absent, .present, false, .none, .mayClip⟩
  | .kmda32 => ⟨.absent, .present, false, .none, .mayClip⟩
  | .kmxda32 => ⟨.absent, .present, false, .none, .mayClip⟩
  | .kmada32 => ⟨.absent, .present, true, .none, .mayClip⟩
  | .kmaxda32 => ⟨.absent, .present, false, .none, .mayClip⟩
  | .kmads32 => ⟨.absent, .present, false, .none, .mayClip⟩
  | .kmadrs32 => ⟨.absent, .present, false, .none, .mayClip⟩
  | .kmaxds32 => ⟨.absent, .present, false, .none, .mayClip⟩
  | .kmsda32 => ⟨.absent, .present, false, .none, .mayClip⟩
  | .kmsxda32 => ⟨.absent, .present, false, .none, .mayClip⟩
  | .smds32 => ⟨.absent, .present, false, .none, .none⟩
  | .smdrs32 => ⟨.absent, .present, false, .none, .none⟩
  | .smxds32 => ⟨.absent, .present, false, .none, .none⟩
  | .sraiwU => ⟨.absent, .present, false, .none, .none⟩
  | .pkbb32 => ⟨.absent, .present, false, .none, .none⟩
  | .pkbt32 => ⟨.absent, .present, false, .none, .none⟩
  | .pktb32 => ⟨.absent, .present, false, .none, .none⟩
  | .pktt32 => ⟨.absent, .present, false, .none, .none⟩

/-- How a row stands at an XLEN. -/
def presence (x : Xlen) (row : Row) : Presence :=
  match x with
  | .rv32 => (rowInfo row).rv32
  | .rv64 => (rowInfo row).rv64

/-- Whether the decoder of an XLEN knows the row at all (rule R71). -/
def known (x : Xlen) (row : Row) : Bool := presence x row != .absent

/-- A pair field that rule R24 allows: the number is even. -/
def evenField (f : Reg) : Bool := !f.getLsbD 0

/-- Every field of the row that names a pair is even (rule R24). -/
def evenPairs (row : Row) (rd rs1 rs2 : Reg) : Bool :=
  match (rowInfo row).pairs with
  | .none => true
  | .rd => evenField rd
  | .rs1 => evenField rs1
  | .rdRs1 => evenField rd && evenField rs1
  | .rdRs1Rs2 => evenField rd && evenField rs1 && evenField rs2

/-- The row is one of the configured hardware (rule R551): present at the XLEN, or replaced there while
`KEEP_REPLACED_ENCODINGS` holds; and Zpsfoperand is implemented if the row belongs to it. -/
def rowPresent (c : Config) (row : Row) : Bool :=
  (presence c.xlen row == .present || (presence c.xlen row == .replaced && c.keepReplaced)) &&
    (!(rowInfo row).zpsf || c.zpsf)

/-- The pair fields are legal (rules R24, R551): odd ones are not on RV32, unless `ODD_PAIR` = `ignore_bit0`. -/
def pairsLegal (c : Config) (row : Row) (rd rs1 rs2 : Reg) : Bool :=
  c.xlen == .rv64 || c.oddPair == .ignoreBit0 || evenPairs row rd rs1 rs2

/-- The class of rule R552, decided by the instruction word alone: the instructions that access `vxsat`. -/
def accessesVxsat (row : Row) : Bool := (rowInfo row).vxsat != .none

end Sys2Proof.Machine
end

