-- ==== Sys2Proof/WellFormed.lean ====
section
/-!
DEFINITION. Which instruction terms are the reading of some word at an XLEN (the encodings of 30_encoding.md).
Register numbers and immediates are bit fields of their exact width, so only these checks are left.
-/

namespace Sys2Proof

/-- A branch offset is even: bit 0 is not in the word (rule R63). -/
def evenOffset (offset : BitVec 13) : Bool := !offset.getLsbD 0

/-- The term is not a second name for words that are read as another constructor: RDOV's word is not CSRRS
(R27), CLROV's is not CSRRCI (R28), SWAP16's is not PKBT16 (R244); and SMBB32, KMADA32, PKBB32 and PKTT32 are
assembler names whose words are read as MULSR64, KMAR64, PACK and PACKU (R79). -/
def ownWord : Instr → Bool
  | .csrrs _ rs1 => rs1 != 0#5
  | .csrrci rd uimm => rd != 0#5 || uimm != 1#5
  | .pkbt16 _ rs1 rs2 => rs1 != rs2
  | .smbb32 _ _ _ => false
  | .kmada32 _ _ _ => false
  | .pkbb32 _ _ _ => false
  | .pktt32 _ _ _ => false
  | _ => true

/-- The branch offset, if the instruction has one, is even (rule R83). -/
def offsetOk : Instr → Bool
  | .bne _ _ offset => evenOffset offset
  | _ => true

/-- The instruction's row exists at the XLEN (rule R71), its offset is even, and its word is its own. -/
def wellFormed (x : Xlen) (i : Instr) : Bool :=
  Machine.known x i.row && offsetOk i && ownWord i

end Sys2Proof
end

