-- ==== Sys2Proof/Decode.lean ====
section
/-!
DEFINITION. Reading an instruction word and writing one (30_encoding.md). `decode` is total: a word that is no row
of opcode_table.json at the XLEN gives none, which the machine turns into an illegal-instruction exception
(rules R70, R551). `encode` writes the word of each instruction from the row's encoding.
-/

namespace Sys2Proof

/-- The major opcode OP-P (rule R62). -/
def opP : BitVec 7 := 0b1110111#7
/-- The major opcode OP (rule R62). -/
def opOp : BitVec 7 := 0b0110011#7
/-- The major opcode OP-IMM (rule R62). -/
def opImm : BitVec 7 := 0b0010011#7
/-- The major opcode OP-32 (rule R62). -/
def opOp32 : BitVec 7 := 0b0111011#7
/-- The major opcode SYSTEM (rule R62). -/
def opSystem : BitVec 7 := 0b1110011#7
/-- The major opcode LOAD (rule R62). -/
def opLoad : BitVec 7 := 0b0000011#7
/-- The major opcode STORE (rule R62). -/
def opStore : BitVec 7 := 0b0100011#7
/-- The major opcode LUI (rule R62). -/
def opLui : BitVec 7 := 0b0110111#7
/-- The major opcode BRANCH (rule R62). -/
def opBranch : BitVec 7 := 0b1100011#7

/-- `I[31:25]` (rule R61). -/
def funct7Of (w : Word) : BitVec 7 := w.extractLsb' 25 7
/-- `I[24:20]` (rule R61). -/
def rs2Of (w : Word) : Reg := w.extractLsb' 20 5
/-- `I[19:15]` (rule R61). -/
def rs1Of (w : Word) : Reg := w.extractLsb' 15 5
/-- `I[14:12]` (rule R61). -/
def funct3Of (w : Word) : BitVec 3 := w.extractLsb' 12 3
/-- `I[11:7]` (rule R61). -/
def rdOf (w : Word) : Reg := w.extractLsb' 7 5
/-- `I[6:0]` (rule R61). -/
def opcodeOf (w : Word) : BitVec 7 := w.extractLsb' 0 7


/-- A part of `opPTable0`. -/
def opPTable0a : List (BitVec 7 × Row) :=
  [(0b0000000#7, .radd16),
   (0b0000001#7, .rsub16),
   (0b0000010#7, .rcras16),
   (0b0000011#7, .rcrsa16),
   (0b0000100#7, .radd8),
   (0b0000101#7, .rsub8),
   (0b0000110#7, .scmplt16),
   (0b0000111#7, .scmplt8),
   (0b0001000#7, .kadd16),
   (0b0001001#7, .ksub16),
   (0b0001010#7, .kcras16),
   (0b0001011#7, .kcrsa16),
   (0b0001100#7, .kadd8),
   (0b0001101#7, .ksub8),
   (0b0001110#7, .scmple16),
   (0b0001111#7, .scmple8),
   (0b0010000#7, .uradd16),
   (0b0010001#7, .ursub16),
   (0b0010010#7, .urcras16),
   (0b0010011#7, .urcrsa16),
   (0b0010100#7, .uradd8),
   (0b0010101#7, .ursub8),
   (0b0010110#7, .ucmplt16),
   (0b0010111#7, .ucmplt8),
   (0b0011000#7, .ukadd16),
   (0b0011001#7, .uksub16),
   (0b0011010#7, .ukcras16),
   (0b0011011#7, .ukcrsa16),
   (0b0011100#7, .ukadd8),
   (0b0011101#7, .uksub8),
   (0b0011110#7, .ucmple16),
   (0b0011111#7, .ucmple8)]

/-- A part of `opPTable0`. -/
def opPTable0b : List (BitVec 7 × Row) :=
  [(0b0100000#7, .add16),
   (0b0100001#7, .sub16),
   (0b0100010#7, .cras16),
   (0b0100011#7, .crsa16),
   (0b0100100#7, .add8),
   (0b0100101#7, .sub8),
   (0b0100110#7, .cmpeq16),
   (0b0100111#7, .cmpeq8),
   (0b0101000#7, .sra16),
   (0b0101001#7, .srl16),
   (0b0101010#7, .sll16),
   (0b0101011#7, .kslra16),
   (0b0101100#7, .sra8),
   (0b0101101#7, .srl8),
   (0b0101110#7, .sll8),
   (0b0101111#7, .kslra8),
   (0b0110000#7, .sra16U),
   (0b0110001#7, .srl16U),
   (0b0110010#7, .ksll16),
   (0b0110011#7, .kslra16U),
   (0b0110100#7, .sra8U),
   (0b0110101#7, .srl8U),
   (0b0110110#7, .ksll8),
   (0b0110111#7, .kslra8U),
   (0b1000000#7, .smin16),
   (0b1000001#7, .smax16),
   (0b1000011#7, .khm16),
   (0b1000100#7, .smin8),
   (0b1000101#7, .smax8),
   (0b1000111#7, .khm8),
   (0b1001000#7, .umin16),
   (0b1001001#7, .umax16)]

/-- A part of `opPTable0`. -/
def opPTable0c : List (BitVec 7 × Row) :=
  [(0b1001011#7, .khmx16),
   (0b1001100#7, .umin8),
   (0b1001101#7, .umax8),
   (0b1001111#7, .khmx8),
   (0b1010000#7, .smul16),
   (0b1010001#7, .smulx16),
   (0b1010100#7, .smul8),
   (0b1010101#7, .smulx8),
   (0b1011000#7, .umul16),
   (0b1011001#7, .umulx16),
   (0b1011100#7, .umul8),
   (0b1011101#7, .umulx8),
   (0b1100100#7, .smaqa),
   (0b1100101#7, .smaqaSu),
   (0b1100110#7, .umaqa),
   (0b1100111#7, .wext),
   (0b1110000#7, .ave),
   (0b1110011#7, .bitrev),
   (0b1111000#7, .minw),
   (0b1111001#7, .maxw),
   (0b1111110#7, .pbsad),
   (0b1111111#7, .pbsada)]

/-- The register-register instructions of OP-P with funct3 = 000, by funct7 (rule R72). -/
def opPTable0 : List (BitVec 7 × Row) :=
  opPTable0a ++ opPTable0b ++ opPTable0c

/-- A part of `opPTable1`. -/
def opPTable1a : List (BitVec 7 × Row) :=
  [(0b0000000#7, .kaddw),
   (0b0000001#7, .ksubw),
   (0b0000010#7, .kaddh),
   (0b0000011#7, .ksubh),
   (0b0000100#7, .smbb16),
   (0b0000101#7, .kdmbb),
   (0b0000110#7, .khmbb),
   (0b0000111#7, .pkbb16),
   (0b0001000#7, .ukaddw),
   (0b0001001#7, .uksubw),
   (0b0001010#7, .ukaddh),
   (0b0001011#7, .uksubh),
   (0b0001100#7, .smbt16),
   (0b0001101#7, .kdmbt),
   (0b0001110#7, .khmbt),
   (0b0010000#7, .raddw),
   (0b0010001#7, .rsubw),
   (0b0010010#7, .sraU),
   (0b0010011#7, .ksllw),
   (0b0010100#7, .smtt16),
   (0b0010101#7, .kdmtt),
   (0b0010110#7, .khmtt),
   (0b0010111#7, .pktt16),
   (0b0011000#7, .uraddw),
   (0b0011001#7, .ursubw),
   (0b0011100#7, .kmda),
   (0b0011101#7, .kmxda),
   (0b0011111#7, .pktb16),
   (0b0100000#7, .smmul),
   (0b0100001#7, .kmmsb),
   (0b0100010#7, .smmwb),
   (0b0100011#7, .kmmawb)]

/-- A part of `opPTable1`. -/
def opPTable1b : List (BitVec 7 × Row) :=
  [(0b0100100#7, .kmada),
   (0b0100101#7, .kmaxda),
   (0b0100110#7, .kmsda),
   (0b0100111#7, .kmsxda),
   (0b0101000#7, .smmulU),
   (0b0101001#7, .kmmsbU),
   (0b0101010#7, .smmwbU),
   (0b0101011#7, .kmmawbU),
   (0b0101100#7, .smds),
   (0b0101101#7, .kmabb),
   (0b0101110#7, .kmads),
   (0b0101111#7, .smal),
   (0b0110000#7, .kmmac),
   (0b0110001#7, .kwmmul),
   (0b0110010#7, .smmwt),
   (0b0110011#7, .kmmawt),
   (0b0110100#7, .smdrs),
   (0b0110101#7, .kmabt),
   (0b0110110#7, .kmadrs),
   (0b0110111#7, .kslraw),
   (0b0111000#7, .kmmacU),
   (0b0111001#7, .kwmmulU),
   (0b0111010#7, .smmwtU),
   (0b0111011#7, .kmmawtU),
   (0b0111100#7, .smxds),
   (0b0111101#7, .kmatt),
   (0b0111110#7, .kmaxds),
   (0b0111111#7, .kslrawU),
   (0b1000000#7, .radd64),
   (0b1000001#7, .rsub64),
   (0b1000010#7, .smar64),
   (0b1000011#7, .smsr64)]

/-- A part of `opPTable1`. -/
def opPTable1c : List (BitVec 7 × Row) :=
  [(0b1000100#7, .smalbb),
   (0b1000101#7, .smalds),
   (0b1000110#7, .smalda),
   (0b1000111#7, .kmmwb2),
   (0b1001000#7, .kadd64),
   (0b1001001#7, .ksub64),
   (0b1001010#7, .kmar64),
   (0b1001011#7, .kmsr64),
   (0b1001100#7, .smalbt),
   (0b1001101#7, .smaldrs),
   (0b1001110#7, .smalxda),
   (0b1001111#7, .kmmwb2U),
   (0b1010000#7, .uradd64),
   (0b1010001#7, .ursub64),
   (0b1010010#7, .umar64),
   (0b1010011#7, .umsr64),
   (0b1010100#7, .smaltt),
   (0b1010101#7, .smalxds),
   (0b1010110#7, .smslda),
   (0b1010111#7, .kmmwt2),
   (0b1011000#7, .ukadd64),
   (0b1011001#7, .uksub64),
   (0b1011010#7, .ukmar64),
   (0b1011011#7, .ukmsr64),
   (0b1011110#7, .smslxda),
   (0b1011111#7, .kmmwt2U),
   (0b1100000#7, .add64),
   (0b1100001#7, .sub64),
   (0b1100010#7, .maddr32),
   (0b1100011#7, .msubr32),
   (0b1100111#7, .kmmawb2),
   (0b1101001#7, .kdmabb)]

/-- A part of `opPTable1`. -/
def opPTable1d : List (BitVec 7 × Row) :=
  [(0b1101100#7, .kdmabb16),
   (0b1101101#7, .kdmbb16),
   (0b1101110#7, .khmbb16),
   (0b1101111#7, .kmmawb2U),
   (0b1110000#7, .mulsr64),
   (0b1110001#7, .kdmabt),
   (0b1110100#7, .kdmabt16),
   (0b1110101#7, .kdmbt16),
   (0b1110110#7, .khmbt16),
   (0b1110111#7, .kmmawt2),
   (0b1111000#7, .mulr64),
   (0b1111001#7, .kdmatt),
   (0b1111100#7, .kdmatt16),
   (0b1111101#7, .kdmtt16),
   (0b1111110#7, .khmtt16),
   (0b1111111#7, .kmmawt2U)]

/-- The register-register instructions of OP-P with funct3 = 001, by funct7 (rule R75), PKBT16 apart. -/
def opPTable1 : List (BitVec 7 × Row) :=
  opPTable1a ++ opPTable1b ++ opPTable1c ++ opPTable1d

/-- A part of `opPTable2`. -/
def opPTable2a : List (BitVec 7 × Row) :=
  [(0b0000000#7, .radd32),
   (0b0000001#7, .rsub32),
   (0b0000010#7, .rcras32),
   (0b0000011#7, .rcrsa32),
   (0b0001000#7, .kadd32),
   (0b0001001#7, .ksub32),
   (0b0001010#7, .kcras32),
   (0b0001011#7, .kcrsa32),
   (0b0001100#7, .smbt32),
   (0b0001111#7, .pkbt32),
   (0b0010000#7, .uradd32),
   (0b0010001#7, .ursub32),
   (0b0010010#7, .urcras32),
   (0b0010011#7, .urcrsa32),
   (0b0010100#7, .smtt32),
   (0b0011000#7, .ukadd32),
   (0b0011001#7, .uksub32),
   (0b0011010#7, .ukcras32),
   (0b0011011#7, .ukcrsa32),
   (0b0011100#7, .kmda32),
   (0b0011101#7, .kmxda32),
   (0b0011111#7, .pktb32),
   (0b0100000#7, .add32),
   (0b0100001#7, .sub32),
   (0b0100010#7, .cras32),
   (0b0100011#7, .crsa32),
   (0b0100101#7, .kmaxda32),
   (0b0100110#7, .kmsda32),
   (0b0100111#7, .kmsxda32),
   (0b0101000#7, .sra32),
   (0b0101001#7, .srl32),
   (0b0101010#7, .sll32)]

/-- A part of `opPTable2`. -/
def opPTable2b : List (BitVec 7 × Row) :=
  [(0b0101011#7, .kslra32),
   (0b0101100#7, .smds32),
   (0b0101101#7, .kmabb32),
   (0b0101110#7, .kmads32),
   (0b0110000#7, .sra32U),
   (0b0110001#7, .srl32U),
   (0b0110010#7, .ksll32),
   (0b0110011#7, .kslra32U),
   (0b0110100#7, .smdrs32),
   (0b0110101#7, .kmabt32),
   (0b0110110#7, .kmadrs32),
   (0b0111100#7, .smxds32),
   (0b0111101#7, .kmatt32),
   (0b0111110#7, .kmaxds32),
   (0b1001000#7, .smin32),
   (0b1001001#7, .smax32),
   (0b1010000#7, .umin32),
   (0b1010001#7, .umax32),
   (0b1011000#7, .rstas32),
   (0b1011001#7, .rstsa32),
   (0b1011010#7, .rstas16),
   (0b1011011#7, .rstsa16),
   (0b1100000#7, .kstas32),
   (0b1100001#7, .kstsa32),
   (0b1100010#7, .kstas16),
   (0b1100011#7, .kstsa16),
   (0b1101000#7, .urstas32),
   (0b1101001#7, .urstsa32),
   (0b1101010#7, .urstas16),
   (0b1101011#7, .urstsa16),
   (0b1110000#7, .ukstas32),
   (0b1110001#7, .ukstsa32)]

/-- A part of `opPTable2`. -/
def opPTable2c : List (BitVec 7 × Row) :=
  [(0b1110010#7, .ukstas16),
   (0b1110011#7, .ukstsa16),
   (0b1111000#7, .stas32),
   (0b1111001#7, .stsa32),
   (0b1111010#7, .stas16),
   (0b1111011#7, .stsa16)]

/-- The register-register instructions of OP-P with funct3 = 010, by funct7 (rule R76). -/
def opPTable2 : List (BitVec 7 × Row) :=
  opPTable2a ++ opPTable2b ++ opPTable2c

/-- The ONEOP group, by subf5 (rule R73), INSB apart. -/
def oneopTable : List (BitVec 5 × Row) :=
  [(0b01000#5, .sunpkd810),
   (0b01001#5, .sunpkd820),
   (0b01010#5, .sunpkd830),
   (0b01011#5, .sunpkd831),
   (0b01100#5, .zunpkd810),
   (0b01101#5, .zunpkd820),
   (0b01110#5, .zunpkd830),
   (0b01111#5, .zunpkd831),
   (0b10000#5, .kabs8),
   (0b10001#5, .kabs16),
   (0b10010#5, .kabs32),
   (0b10011#5, .sunpkd832),
   (0b10100#5, .kabsw),
   (0b10111#5, .zunpkd832),
   (0b11000#5, .swap8)]

/-- The ONEOP2 group, by subf5 (rule R74). -/
def oneop2Table : List (BitVec 5 × Row) :=
  [(0b00000#5, .clrs8),
   (0b00001#5, .clz8),
   (0b01000#5, .clrs16),
   (0b01001#5, .clz16),
   (0b11000#5, .clrs32),
   (0b11001#5, .clz32)]

/-- The entry of a table under a key. -/
def lookupRow {n : Nat} (key : BitVec n) : List (BitVec n × Row) → Option Row
  | [] => none
  | (k, row) :: rest => if key = k then some row else lookupRow key rest

/-- The immediates of 5 bits under OP-P funct3 = 000, by funct7 (rule R65 (a), the RV32 form of BITREVI apart). -/
def shift5Table0 : List (BitVec 7 × Row) :=
  [(0b1101111#7, .wexti), (0b1110010#7, .sclip32), (0b1111010#7, .uclip32)]

/-- The immediates of 5 bits under OP-P funct3 = 001, by funct7 (rule R65 (a), the RV32 form of SRAI.u apart). -/
def shift5Table1 : List (BitVec 7 × Row) :=
  [(0b0011010#7, .sraiwU), (0b0011011#7, .kslliw)]

/-- The immediates of 5 bits under OP-P funct3 = 010, by funct7 (rule R65 (a)). -/
def shift5Table2 : List (BitVec 7 × Row) :=
  [(0b0111000#7, .srai32), (0b0111001#7, .srli32), (0b0111010#7, .slli32),
   (0b1000000#7, .srai32U), (0b1000001#7, .srli32U), (0b1000010#7, .kslli32)]

/-- The immediates of 4 bits, by funct7 and `I[24]` (rule R65 (b)). -/
def shift4Table : List (BitVec 8 × Row) :=
  [(0b01110000#8, .srai16), (0b01110001#8, .srai16U), (0b01110010#8, .srli16), (0b01110011#8, .srli16U),
   (0b01110100#8, .slli16), (0b01110101#8, .kslli16), (0b10000100#8, .sclip16), (0b10000101#8, .uclip16)]

/-- The immediates of 3 bits, by funct7 and `I[24:23]` (rule R65 (c)). -/
def shift3Table : List (BitVec 9 × Row) :=
  [(0b011110000#9, .srai8), (0b011110001#9, .srai8U), (0b011110100#9, .srli8), (0b011110101#9, .srli8U),
   (0b011111000#9, .slli8), (0b011111001#9, .kslli8), (0b100011000#9, .sclip8), (0b100011010#9, .uclip8)]

/-- BITREVI: 6 immediate bits on RV64, 5 on RV32 (rule R65 (d)). -/
def decodeBitrevi (x : Xlen) (f7 : BitVec 7) : Option Row :=
  match x with
  | .rv32 => if f7 = 0b1110100#7 then some .bitreviRv32 else none
  | .rv64 => if f7.extractLsb' 1 6 = 0b111010#6 then some .bitreviRv64 else none

/-- SRAI.u: 6 immediate bits on RV64, 5 on RV32 (rule R65 (d)). -/
def decodeSraiU (x : Xlen) (f7 : BitVec 7) : Option Row :=
  match x with
  | .rv32 => if f7 = 0b1101010#7 then some .sraiURv32 else none
  | .rv64 => if f7.extractLsb' 1 6 = 0b110101#6 then some .sraiURv64 else none

/-- INSB: a byte position of 3 bits on RV64, of 2 on RV32 (rule R67). -/
def decodeInsb (x : Xlen) (rs2 : Reg) : Option Row :=
  match x with
  | .rv32 => if rs2.extractLsb' 2 3 = 0#3 then some .insbRv32 else none
  | .rv64 => if rs2.extractLsb' 3 2 = 0#2 then some .insbRv64 else none

/-- OP-P with funct3 = 000 (rules R65, R67, R72 to R74). -/
def decodeOpP0 (x : Xlen) (f7 : BitVec 7) (rs2 : Reg) : Option Row :=
  lookupRow f7 opPTable0
  <|> (if f7 = 0b1010110#7 then lookupRow rs2 oneopTable <|> decodeInsb x rs2
      else if f7 = 0b1010111#7 then lookupRow rs2 oneop2Table
      else none)
  <|> lookupRow f7 shift5Table0
  <|> lookupRow (f7 ++ rs2.extractLsb' 4 1) shift4Table
  <|> lookupRow (f7 ++ rs2.extractLsb' 3 2) shift3Table
  <|> decodeBitrevi x f7

/-- OP-P with funct3 = 001 (rules R65, R75); PKBT16 with equal sources is SWAP16 (rule R244). -/
def decodeOpP1 (x : Xlen) (f7 : BitVec 7) (rs2 rs1 : Reg) : Option Row :=
  if f7 = 0b0001111#7 then some (if rs1 = rs2 then .swap16 else .pkbt16)
  else lookupRow f7 opPTable1 <|> lookupRow f7 shift5Table1 <|> decodeSraiU x f7

/-- OP-P with funct3 = 010 (rules R65, R76). -/
def decodeOpP2 (f7 : BitVec 7) : Option Row :=
  lookupRow f7 opPTable2 <|> lookupRow f7 shift5Table2

/-- OP-P with funct3 = 011: the removed BPICK (rules R77, R115). -/
def decodeOpP3 (f7 : BitVec 7) : Option Row :=
  if f7.extractLsb' 0 2 = 0b00#2 then some .bpick else none

/-- The major opcode OP (rule R78). -/
def decodeOp (f7 : BitVec 7) (f3 : BitVec 3) : Option Row :=
  if f3 = 0b100#3 then lookupRow f7 [(0b0000100#7, .pack), (0b0100100#7, .packu), (0b0000101#7, .min)]
  else if f3 = 0b110#3 then lookupRow f7 [(0b0000101#7, .max)]
  else if f3 = 0b001#3 then
    if f7.extractLsb' 0 2 = 0b11#2 then some .cmix else lookupRow f7 [(0b0000001#7, .smmulRv32)]
  else if f3 = 0b101#3 then
    if f7.extractLsb' 0 2 = 0b10#2 then some .fsr else none
  else none

/-- The major opcode OP-IMM (rules R78, R81). -/
def decodeOpImm (f7 : BitVec 7) (rs2 : Reg) (f3 : BitVec 3) : Option Row :=
  if f3 = 0b000#3 then some .addi
  else if f3 = 0b001#3 then lookupRow (f7 ++ rs2) [(0b011000000000#12, .clz)]
  else if f3 = 0b101#3 then
    if f7.extractLsb' 1 1 = 1#1 then some .fsri
    else lookupRow (f7 ++ rs2)
      [(0b011010011111#12, .revRv32), (0b011010111111#12, .revRv64), (0b011010001000#12, .rev8H)]
  else none

/-- The major opcode OP-32 (rule R78). -/
def decodeOp32 (f7 : BitVec 7) (f3 : BitVec 3) : Option Row :=
  if f3 = 0b101#3 ∧ f7.extractLsb' 0 2 = 0b10#2 then some .fsrw else none

/-- The major opcode SYSTEM with the CSR address 0x009 (rules R27 to R29, R68). -/
def decodeSystem (f7 : BitVec 7) (rs2 rs1 : Reg) (f3 : BitVec 3) (rd : Reg) : Option Row :=
  if f7 ++ rs2 = 0x009#12 then
    if f3 = 0b010#3 ∧ rs1 = 0#5 then some .rdov
    else if f3 = 0b111#3 ∧ rs1 = 1#5 ∧ rd = 0#5 then some .clrov
    else lookupRow f3
      [(0b001#3, .csrrw), (0b010#3, .csrrs), (0b011#3, .csrrc),
       (0b101#3, .csrrwi), (0b110#3, .csrrsi), (0b111#3, .csrrci)]
  else none

/-- The row the fields of a word select (rules R62, R72 to R78), before the check that it exists at the XLEN. -/
def decodeFields (x : Xlen) (f7 : BitVec 7) (rs2 rs1 : Reg) (f3 : BitVec 3) (rd : Reg) (opc : BitVec 7) :
    Option Row :=
  if opc = opP then
    if f3 = 0b000#3 then decodeOpP0 x f7 rs2
    else if f3 = 0b001#3 then decodeOpP1 x f7 rs2 rs1
    else if f3 = 0b010#3 then decodeOpP2 f7
    else if f3 = 0b011#3 then decodeOpP3 f7
    else none
  else if opc = opOp then decodeOp f7 f3
  else if opc = opImm then decodeOpImm f7 rs2 f3
  else if opc = opOp32 then decodeOp32 f7 f3
  else if opc = opSystem then decodeSystem f7 rs2 rs1 f3 rd
  else if opc = opLoad then lookupRow f3 [(0b010#3, .lw), (0b011#3, .ld)]
  else if opc = opStore then lookupRow f3 [(0b010#3, .sw), (0b011#3, .sd)]
  else if opc = opLui then some .lui
  else if opc = opBranch then lookupRow f3 [(0b001#3, .bne)]
  else none

/-- The opcode-table row a word is at an XLEN, none when no row that exists there matches (rules R70, R71). -/
def decodeRow (x : Xlen) (w : Word) : Option Row :=
  (decodeFields x (funct7Of w) (rs2Of w) (rs1Of w) (funct3Of w) (rdOf w) (opcodeOf w)).filter (Machine.known x)

/-- `I[24:20]`, an immediate of 5 bits (rule R69). -/
def imm5Of (w : Word) : BitVec 5 := w.extractLsb' 20 5
/-- `I[25:20]`, an immediate of 6 bits (rule R69). -/
def imm6Of (w : Word) : BitVec 6 := w.extractLsb' 20 6
/-- `I[23:20]`, an immediate of 4 bits (rule R69). -/
def imm4Of (w : Word) : BitVec 4 := w.extractLsb' 20 4
/-- `I[22:20]`, an immediate of 3 bits (rule R69). -/
def imm3Of (w : Word) : BitVec 3 := w.extractLsb' 20 3
/-- `I[21:20]`, an immediate of 2 bits (rule R69). -/
def imm2Of (w : Word) : BitVec 2 := w.extractLsb' 20 2
/-- `I[31:27]`, the third source register (rule R66). -/
def rs3Of (w : Word) : Reg := w.extractLsb' 27 5
/-- The 12-bit immediate of format I (rule R63). -/
def immIOf (w : Word) : BitVec 12 := w.extractLsb' 20 12
/-- The 12-bit immediate of format S (rule R63). -/
def immSOf (w : Word) : BitVec 12 := w.extractLsb' 25 7 ++ w.extractLsb' 7 5
/-- The 20-bit immediate of format U (rule R63). -/
def immUOf (w : Word) : BitVec 20 := w.extractLsb' 12 20
/-- The branch offset of format B, from its scattered bits (rule R63). -/
def offsetOf (w : Word) : BitVec 13 :=
  w.extractLsb' 31 1 ++ w.extractLsb' 7 1 ++ w.extractLsb' 25 6 ++ w.extractLsb' 8 4 ++ 0#1

/-- The instruction of a row with the operands its word holds. No code is generated for it: a value of `Instr` with
its 357 constructors does not fit the runtime's tags; Lean's kernel evaluates it. -/
noncomputable def instrOf (row : Row) (w : Word) : Instr :=
  match row with
  | .rdov => .rdov (rdOf w)
  | .clrov => .clrov
  | .csrrw => .csrrw (rdOf w) (rs1Of w)
  | .csrrs => .csrrs (rdOf w) (rs1Of w)
  | .csrrc => .csrrc (rdOf w) (rs1Of w)
  | .csrrwi => .csrrwi (rdOf w) (rs1Of w)
  | .csrrsi => .csrrsi (rdOf w) (rs1Of w)
  | .csrrci => .csrrci (rdOf w) (rs1Of w)
  | .lw => .lw (rdOf w) (rs1Of w) (immIOf w)
  | .sw => .sw (rs2Of w) (rs1Of w) (immSOf w)
  | .ld => .ld (rdOf w) (rs1Of w) (immIOf w)
  | .sd => .sd (rs2Of w) (rs1Of w) (immSOf w)
  | .addi => .addi (rdOf w) (rs1Of w) (immIOf w)
  | .lui => .lui (rdOf w) (immUOf w)
  | .bne => .bne (rs1Of w) (rs2Of w) (offsetOf w)
  | .clz => .clz (rdOf w) (rs1Of w)
  | .cmix => .cmix (rdOf w) (rs1Of w) (rs2Of w) (rs3Of w)
  | .fsr => .fsr (rdOf w) (rs1Of w) (rs2Of w) (rs3Of w)
  | .fsri => .fsri (rdOf w) (rs1Of w) (rs3Of w) (imm6Of w)
  | .fsrw => .fsrw (rdOf w) (rs1Of w) (rs2Of w) (rs3Of w)
  | .max => .max (rdOf w) (rs1Of w) (rs2Of w)
  | .min => .min (rdOf w) (rs1Of w) (rs2Of w)
  | .pack => .pack (rdOf w) (rs1Of w) (rs2Of w)
  | .packu => .packu (rdOf w) (rs1Of w) (rs2Of w)
  | .revRv32 => .revRv32 (rdOf w) (rs1Of w)
  | .revRv64 => .revRv64 (rdOf w) (rs1Of w)
  | .rev8H => .rev8H (rdOf w) (rs1Of w)
  | .bpick => .bpick (rdOf w) (rs1Of w) (rs2Of w) (rs3Of w)
  | .maxw => .maxw (rdOf w) (rs1Of w) (rs2Of w)
  | .minw => .minw (rdOf w) (rs1Of w) (rs2Of w)
  | .add16 => .add16 (rdOf w) (rs1Of w) (rs2Of w)
  | .radd16 => .radd16 (rdOf w) (rs1Of w) (rs2Of w)
  | .uradd16 => .uradd16 (rdOf w) (rs1Of w) (rs2Of w)
  | .kadd16 => .kadd16 (rdOf w) (rs1Of w) (rs2Of w)
  | .ukadd16 => .ukadd16 (rdOf w) (rs1Of w) (rs2Of w)
  | .sub16 => .sub16 (rdOf w) (rs1Of w) (rs2Of w)
  | .rsub16 => .rsub16 (rdOf w) (rs1Of w) (rs2Of w)
  | .ursub16 => .ursub16 (rdOf w) (rs1Of w) (rs2Of w)
  | .ksub16 => .ksub16 (rdOf w) (rs1Of w) (rs2Of w)
  | .uksub16 => .uksub16 (rdOf w) (rs1Of w) (rs2Of w)
  | .cras16 => .cras16 (rdOf w) (rs1Of w) (rs2Of w)
  | .rcras16 => .rcras16 (rdOf w) (rs1Of w) (rs2Of w)
  | .urcras16 => .urcras16 (rdOf w) (rs1Of w) (rs2Of w)
  | .kcras16 => .kcras16 (rdOf w) (rs1Of w) (rs2Of w)
  | .ukcras16 => .ukcras16 (rdOf w) (rs1Of w) (rs2Of w)
  | .crsa16 => .crsa16 (rdOf w) (rs1Of w) (rs2Of w)
  | .rcrsa16 => .rcrsa16 (rdOf w) (rs1Of w) (rs2Of w)
  | .urcrsa16 => .urcrsa16 (rdOf w) (rs1Of w) (rs2Of w)
  | .kcrsa16 => .kcrsa16 (rdOf w) (rs1Of w) (rs2Of w)
  | .ukcrsa16 => .ukcrsa16 (rdOf w) (rs1Of w) (rs2Of w)
  | .stas16 => .stas16 (rdOf w) (rs1Of w) (rs2Of w)
  | .rstas16 => .rstas16 (rdOf w) (rs1Of w) (rs2Of w)
  | .urstas16 => .urstas16 (rdOf w) (rs1Of w) (rs2Of w)
  | .kstas16 => .kstas16 (rdOf w) (rs1Of w) (rs2Of w)
  | .ukstas16 => .ukstas16 (rdOf w) (rs1Of w) (rs2Of w)
  | .stsa16 => .stsa16 (rdOf w) (rs1Of w) (rs2Of w)
  | .rstsa16 => .rstsa16 (rdOf w) (rs1Of w) (rs2Of w)
  | .urstsa16 => .urstsa16 (rdOf w) (rs1Of w) (rs2Of w)
  | .kstsa16 => .kstsa16 (rdOf w) (rs1Of w) (rs2Of w)
  | .ukstsa16 => .ukstsa16 (rdOf w) (rs1Of w) (rs2Of w)
  | .add8 => .add8 (rdOf w) (rs1Of w) (rs2Of w)
  | .radd8 => .radd8 (rdOf w) (rs1Of w) (rs2Of w)
  | .uradd8 => .uradd8 (rdOf w) (rs1Of w) (rs2Of w)
  | .kadd8 => .kadd8 (rdOf w) (rs1Of w) (rs2Of w)
  | .ukadd8 => .ukadd8 (rdOf w) (rs1Of w) (rs2Of w)
  | .sub8 => .sub8 (rdOf w) (rs1Of w) (rs2Of w)
  | .rsub8 => .rsub8 (rdOf w) (rs1Of w) (rs2Of w)
  | .ursub8 => .ursub8 (rdOf w) (rs1Of w) (rs2Of w)
  | .ksub8 => .ksub8 (rdOf w) (rs1Of w) (rs2Of w)
  | .uksub8 => .uksub8 (rdOf w) (rs1Of w) (rs2Of w)
  | .sra16 => .sra16 (rdOf w) (rs1Of w) (rs2Of w)
  | .srai16 => .srai16 (rdOf w) (rs1Of w) (imm4Of w)
  | .sra16U => .sra16U (rdOf w) (rs1Of w) (rs2Of w)
  | .srai16U => .srai16U (rdOf w) (rs1Of w) (imm4Of w)
  | .srl16 => .srl16 (rdOf w) (rs1Of w) (rs2Of w)
  | .srli16 => .srli16 (rdOf w) (rs1Of w) (imm4Of w)
  | .srl16U => .srl16U (rdOf w) (rs1Of w) (rs2Of w)
  | .srli16U => .srli16U (rdOf w) (rs1Of w) (imm4Of w)
  | .sll16 => .sll16 (rdOf w) (rs1Of w) (rs2Of w)
  | .slli16 => .slli16 (rdOf w) (rs1Of w) (imm4Of w)
  | .ksll16 => .ksll16 (rdOf w) (rs1Of w) (rs2Of w)
  | .kslli16 => .kslli16 (rdOf w) (rs1Of w) (imm4Of w)
  | .kslra16 => .kslra16 (rdOf w) (rs1Of w) (rs2Of w)
  | .kslra16U => .kslra16U (rdOf w) (rs1Of w) (rs2Of w)
  | .sra8 => .sra8 (rdOf w) (rs1Of w) (rs2Of w)
  | .srai8 => .srai8 (rdOf w) (rs1Of w) (imm3Of w)
  | .sra8U => .sra8U (rdOf w) (rs1Of w) (rs2Of w)
  | .srai8U => .srai8U (rdOf w) (rs1Of w) (imm3Of w)
  | .srl8 => .srl8 (rdOf w) (rs1Of w) (rs2Of w)
  | .srli8 => .srli8 (rdOf w) (rs1Of w) (imm3Of w)
  | .srl8U => .srl8U (rdOf w) (rs1Of w) (rs2Of w)
  | .srli8U => .srli8U (rdOf w) (rs1Of w) (imm3Of w)
  | .sll8 => .sll8 (rdOf w) (rs1Of w) (rs2Of w)
  | .slli8 => .slli8 (rdOf w) (rs1Of w) (imm3Of w)
  | .ksll8 => .ksll8 (rdOf w) (rs1Of w) (rs2Of w)
  | .kslli8 => .kslli8 (rdOf w) (rs1Of w) (imm3Of w)
  | .kslra8 => .kslra8 (rdOf w) (rs1Of w) (rs2Of w)
  | .kslra8U => .kslra8U (rdOf w) (rs1Of w) (rs2Of w)
  | .cmpeq16 => .cmpeq16 (rdOf w) (rs1Of w) (rs2Of w)
  | .scmplt16 => .scmplt16 (rdOf w) (rs1Of w) (rs2Of w)
  | .scmple16 => .scmple16 (rdOf w) (rs1Of w) (rs2Of w)
  | .ucmplt16 => .ucmplt16 (rdOf w) (rs1Of w) (rs2Of w)
  | .ucmple16 => .ucmple16 (rdOf w) (rs1Of w) (rs2Of w)
  | .cmpeq8 => .cmpeq8 (rdOf w) (rs1Of w) (rs2Of w)
  | .scmplt8 => .scmplt8 (rdOf w) (rs1Of w) (rs2Of w)
  | .scmple8 => .scmple8 (rdOf w) (rs1Of w) (rs2Of w)
  | .ucmplt8 => .ucmplt8 (rdOf w) (rs1Of w) (rs2Of w)
  | .ucmple8 => .ucmple8 (rdOf w) (rs1Of w) (rs2Of w)
  | .smin16 => .smin16 (rdOf w) (rs1Of w) (rs2Of w)
  | .umin16 => .umin16 (rdOf w) (rs1Of w) (rs2Of w)
  | .smax16 => .smax16 (rdOf w) (rs1Of w) (rs2Of w)
  | .umax16 => .umax16 (rdOf w) (rs1Of w) (rs2Of w)
  | .sclip16 => .sclip16 (rdOf w) (rs1Of w) (imm4Of w)
  | .uclip16 => .uclip16 (rdOf w) (rs1Of w) (imm4Of w)
  | .kabs16 => .kabs16 (rdOf w) (rs1Of w)
  | .clrs16 => .clrs16 (rdOf w) (rs1Of w)
  | .clz16 => .clz16 (rdOf w) (rs1Of w)
  | .swap16 => .swap16 (rdOf w) (rs1Of w)
  | .smin8 => .smin8 (rdOf w) (rs1Of w) (rs2Of w)
  | .umin8 => .umin8 (rdOf w) (rs1Of w) (rs2Of w)
  | .smax8 => .smax8 (rdOf w) (rs1Of w) (rs2Of w)
  | .umax8 => .umax8 (rdOf w) (rs1Of w) (rs2Of w)
  | .kabs8 => .kabs8 (rdOf w) (rs1Of w)
  | .sclip8 => .sclip8 (rdOf w) (rs1Of w) (imm3Of w)
  | .uclip8 => .uclip8 (rdOf w) (rs1Of w) (imm3Of w)
  | .clrs8 => .clrs8 (rdOf w) (rs1Of w)
  | .clz8 => .clz8 (rdOf w) (rs1Of w)
  | .swap8 => .swap8 (rdOf w) (rs1Of w)
  | .sunpkd810 => .sunpkd810 (rdOf w) (rs1Of w)
  | .sunpkd820 => .sunpkd820 (rdOf w) (rs1Of w)
  | .sunpkd830 => .sunpkd830 (rdOf w) (rs1Of w)
  | .sunpkd831 => .sunpkd831 (rdOf w) (rs1Of w)
  | .sunpkd832 => .sunpkd832 (rdOf w) (rs1Of w)
  | .zunpkd810 => .zunpkd810 (rdOf w) (rs1Of w)
  | .zunpkd820 => .zunpkd820 (rdOf w) (rs1Of w)
  | .zunpkd830 => .zunpkd830 (rdOf w) (rs1Of w)
  | .zunpkd831 => .zunpkd831 (rdOf w) (rs1Of w)
  | .zunpkd832 => .zunpkd832 (rdOf w) (rs1Of w)
  | .smul16 => .smul16 (rdOf w) (rs1Of w) (rs2Of w)
  | .smulx16 => .smulx16 (rdOf w) (rs1Of w) (rs2Of w)
  | .umul16 => .umul16 (rdOf w) (rs1Of w) (rs2Of w)
  | .umulx16 => .umulx16 (rdOf w) (rs1Of w) (rs2Of w)
  | .khm16 => .khm16 (rdOf w) (rs1Of w) (rs2Of w)
  | .khmx16 => .khmx16 (rdOf w) (rs1Of w) (rs2Of w)
  | .smul8 => .smul8 (rdOf w) (rs1Of w) (rs2Of w)
  | .smulx8 => .smulx8 (rdOf w) (rs1Of w) (rs2Of w)
  | .umul8 => .umul8 (rdOf w) (rs1Of w) (rs2Of w)
  | .umulx8 => .umulx8 (rdOf w) (rs1Of w) (rs2Of w)
  | .khm8 => .khm8 (rdOf w) (rs1Of w) (rs2Of w)
  | .khmx8 => .khmx8 (rdOf w) (rs1Of w) (rs2Of w)
  | .pkbb16 => .pkbb16 (rdOf w) (rs1Of w) (rs2Of w)
  | .pkbt16 => .pkbt16 (rdOf w) (rs1Of w) (rs2Of w)
  | .pktt16 => .pktt16 (rdOf w) (rs1Of w) (rs2Of w)
  | .pktb16 => .pktb16 (rdOf w) (rs1Of w) (rs2Of w)
  | .smmul => .smmul (rdOf w) (rs1Of w) (rs2Of w)
  | .smmulRv32 => .smmulRv32 (rdOf w) (rs1Of w) (rs2Of w)
  | .smmulU => .smmulU (rdOf w) (rs1Of w) (rs2Of w)
  | .kmmac => .kmmac (rdOf w) (rs1Of w) (rs2Of w)
  | .kmmacU => .kmmacU (rdOf w) (rs1Of w) (rs2Of w)
  | .kmmsb => .kmmsb (rdOf w) (rs1Of w) (rs2Of w)
  | .kmmsbU => .kmmsbU (rdOf w) (rs1Of w) (rs2Of w)
  | .kwmmul => .kwmmul (rdOf w) (rs1Of w) (rs2Of w)
  | .kwmmulU => .kwmmulU (rdOf w) (rs1Of w) (rs2Of w)
  | .smmwb => .smmwb (rdOf w) (rs1Of w) (rs2Of w)
  | .smmwbU => .smmwbU (rdOf w) (rs1Of w) (rs2Of w)
  | .smmwt => .smmwt (rdOf w) (rs1Of w) (rs2Of w)
  | .smmwtU => .smmwtU (rdOf w) (rs1Of w) (rs2Of w)
  | .kmmawb => .kmmawb (rdOf w) (rs1Of w) (rs2Of w)
  | .kmmawbU => .kmmawbU (rdOf w) (rs1Of w) (rs2Of w)
  | .kmmawt => .kmmawt (rdOf w) (rs1Of w) (rs2Of w)
  | .kmmawtU => .kmmawtU (rdOf w) (rs1Of w) (rs2Of w)
  | .kmmwb2 => .kmmwb2 (rdOf w) (rs1Of w) (rs2Of w)
  | .kmmwb2U => .kmmwb2U (rdOf w) (rs1Of w) (rs2Of w)
  | .kmmwt2 => .kmmwt2 (rdOf w) (rs1Of w) (rs2Of w)
  | .kmmwt2U => .kmmwt2U (rdOf w) (rs1Of w) (rs2Of w)
  | .kmmawb2 => .kmmawb2 (rdOf w) (rs1Of w) (rs2Of w)
  | .kmmawb2U => .kmmawb2U (rdOf w) (rs1Of w) (rs2Of w)
  | .kmmawt2 => .kmmawt2 (rdOf w) (rs1Of w) (rs2Of w)
  | .kmmawt2U => .kmmawt2U (rdOf w) (rs1Of w) (rs2Of w)
  | .smbb16 => .smbb16 (rdOf w) (rs1Of w) (rs2Of w)
  | .smbt16 => .smbt16 (rdOf w) (rs1Of w) (rs2Of w)
  | .smtt16 => .smtt16 (rdOf w) (rs1Of w) (rs2Of w)
  | .kmda => .kmda (rdOf w) (rs1Of w) (rs2Of w)
  | .kmxda => .kmxda (rdOf w) (rs1Of w) (rs2Of w)
  | .smds => .smds (rdOf w) (rs1Of w) (rs2Of w)
  | .smdrs => .smdrs (rdOf w) (rs1Of w) (rs2Of w)
  | .smxds => .smxds (rdOf w) (rs1Of w) (rs2Of w)
  | .kmabb => .kmabb (rdOf w) (rs1Of w) (rs2Of w)
  | .kmabt => .kmabt (rdOf w) (rs1Of w) (rs2Of w)
  | .kmatt => .kmatt (rdOf w) (rs1Of w) (rs2Of w)
  | .kmada => .kmada (rdOf w) (rs1Of w) (rs2Of w)
  | .kmaxda => .kmaxda (rdOf w) (rs1Of w) (rs2Of w)
  | .kmads => .kmads (rdOf w) (rs1Of w) (rs2Of w)
  | .kmadrs => .kmadrs (rdOf w) (rs1Of w) (rs2Of w)
  | .kmaxds => .kmaxds (rdOf w) (rs1Of w) (rs2Of w)
  | .kmsda => .kmsda (rdOf w) (rs1Of w) (rs2Of w)
  | .kmsxda => .kmsxda (rdOf w) (rs1Of w) (rs2Of w)
  | .smal => .smal (rdOf w) (rs1Of w) (rs2Of w)
  | .sclip32 => .sclip32 (rdOf w) (rs1Of w) (imm5Of w)
  | .uclip32 => .uclip32 (rdOf w) (rs1Of w) (imm5Of w)
  | .clrs32 => .clrs32 (rdOf w) (rs1Of w)
  | .clz32 => .clz32 (rdOf w) (rs1Of w)
  | .pbsad => .pbsad (rdOf w) (rs1Of w) (rs2Of w)
  | .pbsada => .pbsada (rdOf w) (rs1Of w) (rs2Of w)
  | .smaqa => .smaqa (rdOf w) (rs1Of w) (rs2Of w)
  | .umaqa => .umaqa (rdOf w) (rs1Of w) (rs2Of w)
  | .smaqaSu => .smaqaSu (rdOf w) (rs1Of w) (rs2Of w)
  | .add64 => .add64 (rdOf w) (rs1Of w) (rs2Of w)
  | .radd64 => .radd64 (rdOf w) (rs1Of w) (rs2Of w)
  | .uradd64 => .uradd64 (rdOf w) (rs1Of w) (rs2Of w)
  | .kadd64 => .kadd64 (rdOf w) (rs1Of w) (rs2Of w)
  | .ukadd64 => .ukadd64 (rdOf w) (rs1Of w) (rs2Of w)
  | .sub64 => .sub64 (rdOf w) (rs1Of w) (rs2Of w)
  | .rsub64 => .rsub64 (rdOf w) (rs1Of w) (rs2Of w)
  | .ursub64 => .ursub64 (rdOf w) (rs1Of w) (rs2Of w)
  | .ksub64 => .ksub64 (rdOf w) (rs1Of w) (rs2Of w)
  | .uksub64 => .uksub64 (rdOf w) (rs1Of w) (rs2Of w)
  | .smar64 => .smar64 (rdOf w) (rs1Of w) (rs2Of w)
  | .smsr64 => .smsr64 (rdOf w) (rs1Of w) (rs2Of w)
  | .umar64 => .umar64 (rdOf w) (rs1Of w) (rs2Of w)
  | .umsr64 => .umsr64 (rdOf w) (rs1Of w) (rs2Of w)
  | .kmar64 => .kmar64 (rdOf w) (rs1Of w) (rs2Of w)
  | .kmsr64 => .kmsr64 (rdOf w) (rs1Of w) (rs2Of w)
  | .ukmar64 => .ukmar64 (rdOf w) (rs1Of w) (rs2Of w)
  | .ukmsr64 => .ukmsr64 (rdOf w) (rs1Of w) (rs2Of w)
  | .smalbb => .smalbb (rdOf w) (rs1Of w) (rs2Of w)
  | .smalbt => .smalbt (rdOf w) (rs1Of w) (rs2Of w)
  | .smaltt => .smaltt (rdOf w) (rs1Of w) (rs2Of w)
  | .smalda => .smalda (rdOf w) (rs1Of w) (rs2Of w)
  | .smalxda => .smalxda (rdOf w) (rs1Of w) (rs2Of w)
  | .smalds => .smalds (rdOf w) (rs1Of w) (rs2Of w)
  | .smaldrs => .smaldrs (rdOf w) (rs1Of w) (rs2Of w)
  | .smalxds => .smalxds (rdOf w) (rs1Of w) (rs2Of w)
  | .smslda => .smslda (rdOf w) (rs1Of w) (rs2Of w)
  | .smslxda => .smslxda (rdOf w) (rs1Of w) (rs2Of w)
  | .kaddh => .kaddh (rdOf w) (rs1Of w) (rs2Of w)
  | .ksubh => .ksubh (rdOf w) (rs1Of w) (rs2Of w)
  | .ukaddh => .ukaddh (rdOf w) (rs1Of w) (rs2Of w)
  | .uksubh => .uksubh (rdOf w) (rs1Of w) (rs2Of w)
  | .khmbb => .khmbb (rdOf w) (rs1Of w) (rs2Of w)
  | .khmbt => .khmbt (rdOf w) (rs1Of w) (rs2Of w)
  | .khmtt => .khmtt (rdOf w) (rs1Of w) (rs2Of w)
  | .kaddw => .kaddw (rdOf w) (rs1Of w) (rs2Of w)
  | .ukaddw => .ukaddw (rdOf w) (rs1Of w) (rs2Of w)
  | .ksubw => .ksubw (rdOf w) (rs1Of w) (rs2Of w)
  | .uksubw => .uksubw (rdOf w) (rs1Of w) (rs2Of w)
  | .kdmbb => .kdmbb (rdOf w) (rs1Of w) (rs2Of w)
  | .kdmbt => .kdmbt (rdOf w) (rs1Of w) (rs2Of w)
  | .kdmtt => .kdmtt (rdOf w) (rs1Of w) (rs2Of w)
  | .kslraw => .kslraw (rdOf w) (rs1Of w) (rs2Of w)
  | .kslrawU => .kslrawU (rdOf w) (rs1Of w) (rs2Of w)
  | .ksllw => .ksllw (rdOf w) (rs1Of w) (rs2Of w)
  | .kslliw => .kslliw (rdOf w) (rs1Of w) (imm5Of w)
  | .kdmabb => .kdmabb (rdOf w) (rs1Of w) (rs2Of w)
  | .kdmabt => .kdmabt (rdOf w) (rs1Of w) (rs2Of w)
  | .kdmatt => .kdmatt (rdOf w) (rs1Of w) (rs2Of w)
  | .kabsw => .kabsw (rdOf w) (rs1Of w)
  | .raddw => .raddw (rdOf w) (rs1Of w) (rs2Of w)
  | .uraddw => .uraddw (rdOf w) (rs1Of w) (rs2Of w)
  | .rsubw => .rsubw (rdOf w) (rs1Of w) (rs2Of w)
  | .ursubw => .ursubw (rdOf w) (rs1Of w) (rs2Of w)
  | .mulr64 => .mulr64 (rdOf w) (rs1Of w) (rs2Of w)
  | .mulsr64 => .mulsr64 (rdOf w) (rs1Of w) (rs2Of w)
  | .msubr32 => .msubr32 (rdOf w) (rs1Of w) (rs2Of w)
  | .ave => .ave (rdOf w) (rs1Of w) (rs2Of w)
  | .sraU => .sraU (rdOf w) (rs1Of w) (rs2Of w)
  | .bitrev => .bitrev (rdOf w) (rs1Of w) (rs2Of w)
  | .bitreviRv32 => .bitreviRv32 (rdOf w) (rs1Of w) (imm5Of w)
  | .bitreviRv64 => .bitreviRv64 (rdOf w) (rs1Of w) (imm6Of w)
  | .sraiURv32 => .sraiURv32 (rdOf w) (rs1Of w) (imm5Of w)
  | .sraiURv64 => .sraiURv64 (rdOf w) (rs1Of w) (imm6Of w)
  | .insbRv32 => .insbRv32 (rdOf w) (rs1Of w) (imm2Of w)
  | .insbRv64 => .insbRv64 (rdOf w) (rs1Of w) (imm3Of w)
  | .wext => .wext (rdOf w) (rs1Of w) (rs2Of w)
  | .wexti => .wexti (rdOf w) (rs1Of w) (imm5Of w)
  | .maddr32 => .maddr32 (rdOf w) (rs1Of w) (rs2Of w)
  | .add32 => .add32 (rdOf w) (rs1Of w) (rs2Of w)
  | .radd32 => .radd32 (rdOf w) (rs1Of w) (rs2Of w)
  | .uradd32 => .uradd32 (rdOf w) (rs1Of w) (rs2Of w)
  | .kadd32 => .kadd32 (rdOf w) (rs1Of w) (rs2Of w)
  | .ukadd32 => .ukadd32 (rdOf w) (rs1Of w) (rs2Of w)
  | .sub32 => .sub32 (rdOf w) (rs1Of w) (rs2Of w)
  | .rsub32 => .rsub32 (rdOf w) (rs1Of w) (rs2Of w)
  | .ursub32 => .ursub32 (rdOf w) (rs1Of w) (rs2Of w)
  | .ksub32 => .ksub32 (rdOf w) (rs1Of w) (rs2Of w)
  | .uksub32 => .uksub32 (rdOf w) (rs1Of w) (rs2Of w)
  | .cras32 => .cras32 (rdOf w) (rs1Of w) (rs2Of w)
  | .rcras32 => .rcras32 (rdOf w) (rs1Of w) (rs2Of w)
  | .urcras32 => .urcras32 (rdOf w) (rs1Of w) (rs2Of w)
  | .kcras32 => .kcras32 (rdOf w) (rs1Of w) (rs2Of w)
  | .ukcras32 => .ukcras32 (rdOf w) (rs1Of w) (rs2Of w)
  | .crsa32 => .crsa32 (rdOf w) (rs1Of w) (rs2Of w)
  | .rcrsa32 => .rcrsa32 (rdOf w) (rs1Of w) (rs2Of w)
  | .urcrsa32 => .urcrsa32 (rdOf w) (rs1Of w) (rs2Of w)
  | .kcrsa32 => .kcrsa32 (rdOf w) (rs1Of w) (rs2Of w)
  | .ukcrsa32 => .ukcrsa32 (rdOf w) (rs1Of w) (rs2Of w)
  | .stas32 => .stas32 (rdOf w) (rs1Of w) (rs2Of w)
  | .rstas32 => .rstas32 (rdOf w) (rs1Of w) (rs2Of w)
  | .urstas32 => .urstas32 (rdOf w) (rs1Of w) (rs2Of w)
  | .kstas32 => .kstas32 (rdOf w) (rs1Of w) (rs2Of w)
  | .ukstas32 => .ukstas32 (rdOf w) (rs1Of w) (rs2Of w)
  | .stsa32 => .stsa32 (rdOf w) (rs1Of w) (rs2Of w)
  | .rstsa32 => .rstsa32 (rdOf w) (rs1Of w) (rs2Of w)
  | .urstsa32 => .urstsa32 (rdOf w) (rs1Of w) (rs2Of w)
  | .kstsa32 => .kstsa32 (rdOf w) (rs1Of w) (rs2Of w)
  | .ukstsa32 => .ukstsa32 (rdOf w) (rs1Of w) (rs2Of w)
  | .sra32 => .sra32 (rdOf w) (rs1Of w) (rs2Of w)
  | .srai32 => .srai32 (rdOf w) (rs1Of w) (imm5Of w)
  | .sra32U => .sra32U (rdOf w) (rs1Of w) (rs2Of w)
  | .srai32U => .srai32U (rdOf w) (rs1Of w) (imm5Of w)
  | .srl32 => .srl32 (rdOf w) (rs1Of w) (rs2Of w)
  | .srli32 => .srli32 (rdOf w) (rs1Of w) (imm5Of w)
  | .srl32U => .srl32U (rdOf w) (rs1Of w) (rs2Of w)
  | .srli32U => .srli32U (rdOf w) (rs1Of w) (imm5Of w)
  | .sll32 => .sll32 (rdOf w) (rs1Of w) (rs2Of w)
  | .slli32 => .slli32 (rdOf w) (rs1Of w) (imm5Of w)
  | .ksll32 => .ksll32 (rdOf w) (rs1Of w) (rs2Of w)
  | .kslli32 => .kslli32 (rdOf w) (rs1Of w) (imm5Of w)
  | .kslra32 => .kslra32 (rdOf w) (rs1Of w) (rs2Of w)
  | .kslra32U => .kslra32U (rdOf w) (rs1Of w) (rs2Of w)
  | .smin32 => .smin32 (rdOf w) (rs1Of w) (rs2Of w)
  | .umin32 => .umin32 (rdOf w) (rs1Of w) (rs2Of w)
  | .smax32 => .smax32 (rdOf w) (rs1Of w) (rs2Of w)
  | .umax32 => .umax32 (rdOf w) (rs1Of w) (rs2Of w)
  | .kabs32 => .kabs32 (rdOf w) (rs1Of w)
  | .khmbb16 => .khmbb16 (rdOf w) (rs1Of w) (rs2Of w)
  | .khmbt16 => .khmbt16 (rdOf w) (rs1Of w) (rs2Of w)
  | .khmtt16 => .khmtt16 (rdOf w) (rs1Of w) (rs2Of w)
  | .kdmbb16 => .kdmbb16 (rdOf w) (rs1Of w) (rs2Of w)
  | .kdmbt16 => .kdmbt16 (rdOf w) (rs1Of w) (rs2Of w)
  | .kdmtt16 => .kdmtt16 (rdOf w) (rs1Of w) (rs2Of w)
  | .kdmabb16 => .kdmabb16 (rdOf w) (rs1Of w) (rs2Of w)
  | .kdmabt16 => .kdmabt16 (rdOf w) (rs1Of w) (rs2Of w)
  | .kdmatt16 => .kdmatt16 (rdOf w) (rs1Of w) (rs2Of w)
  | .smbb32 => .smbb32 (rdOf w) (rs1Of w) (rs2Of w)
  | .smbt32 => .smbt32 (rdOf w) (rs1Of w) (rs2Of w)
  | .smtt32 => .smtt32 (rdOf w) (rs1Of w) (rs2Of w)
  | .kmabb32 => .kmabb32 (rdOf w) (rs1Of w) (rs2Of w)
  | .kmabt32 => .kmabt32 (rdOf w) (rs1Of w) (rs2Of w)
  | .kmatt32 => .kmatt32 (rdOf w) (rs1Of w) (rs2Of w)
  | .kmda32 => .kmda32 (rdOf w) (rs1Of w) (rs2Of w)
  | .kmxda32 => .kmxda32 (rdOf w) (rs1Of w) (rs2Of w)
  | .kmada32 => .kmada32 (rdOf w) (rs1Of w) (rs2Of w)
  | .kmaxda32 => .kmaxda32 (rdOf w) (rs1Of w) (rs2Of w)
  | .kmads32 => .kmads32 (rdOf w) (rs1Of w) (rs2Of w)
  | .kmadrs32 => .kmadrs32 (rdOf w) (rs1Of w) (rs2Of w)
  | .kmaxds32 => .kmaxds32 (rdOf w) (rs1Of w) (rs2Of w)
  | .kmsda32 => .kmsda32 (rdOf w) (rs1Of w) (rs2Of w)
  | .kmsxda32 => .kmsxda32 (rdOf w) (rs1Of w) (rs2Of w)
  | .smds32 => .smds32 (rdOf w) (rs1Of w) (rs2Of w)
  | .smdrs32 => .smdrs32 (rdOf w) (rs1Of w) (rs2Of w)
  | .smxds32 => .smxds32 (rdOf w) (rs1Of w) (rs2Of w)
  | .sraiwU => .sraiwU (rdOf w) (rs1Of w) (imm5Of w)
  | .pkbb32 => .pkbb32 (rdOf w) (rs2Of w) (rs1Of w)
  | .pkbt32 => .pkbt32 (rdOf w) (rs1Of w) (rs2Of w)
  | .pktb32 => .pktb32 (rdOf w) (rs1Of w) (rs2Of w)
  | .pktt32 => .pktt32 (rdOf w) (rs2Of w) (rs1Of w)

/-- The instruction a word is at an XLEN, none when no row that exists there matches (rules R70, R71). -/
noncomputable def decode (x : Xlen) (w : Word) : Option Instr := (decodeRow x w).map fun row => instrOf row w

/-- Format R (rule R64): six fields, the most significant first. -/
def encR (f7 : BitVec 7) (rs2 rs1 : Reg) (f3 : BitVec 3) (rd : Reg) (opc : BitVec 7) : Word :=
  f7 ++ rs2 ++ rs1 ++ f3 ++ rd ++ opc

/-- Format R4 (rule R66). -/
def encR4 (rs3 : Reg) (f2 : BitVec 2) (rs2 rs1 : Reg) (f3 : BitVec 3) (rd : Reg) (opc : BitVec 7) : Word :=
  encR (rs3 ++ f2) rs2 rs1 f3 rd opc

/-- FSRI's format R4-imm (rule R66). -/
def encFsri (rs3 : Reg) (imm : BitVec 6) (rs1 rd : Reg) : Word :=
  encR (rs3 ++ 1#1 ++ imm.extractLsb' 5 1) (imm.extractLsb' 0 5) rs1 0b101#3 rd opImm

/-- Format I (rule R63). -/
def encI (imm : BitVec 12) (rs1 : Reg) (f3 : BitVec 3) (rd : Reg) (opc : BitVec 7) : Word :=
  encR (imm.extractLsb' 5 7) (imm.extractLsb' 0 5) rs1 f3 rd opc

/-- Format S (rule R63). -/
def encS (imm : BitVec 12) (rs2 rs1 : Reg) (f3 : BitVec 3) (opc : BitVec 7) : Word :=
  encR (imm.extractLsb' 5 7) rs2 rs1 f3 (imm.extractLsb' 0 5) opc

/-- Format B (rule R63). -/
def encB (offset : BitVec 13) (rs2 rs1 : Reg) (f3 : BitVec 3) (opc : BitVec 7) : Word :=
  encR (offset.extractLsb' 12 1 ++ offset.extractLsb' 5 6) rs2 rs1 f3
    (offset.extractLsb' 1 4 ++ offset.extractLsb' 11 1) opc

/-- Format U (rule R63). -/
def encU (imm : BitVec 20) (rd : Reg) (opc : BitVec 7) : Word :=
  encR (imm.extractLsb' 13 7) (imm.extractLsb' 8 5) (imm.extractLsb' 3 5) (imm.extractLsb' 0 3) rd opc

/-- A CSR instruction on `vxsat`, CSR address 0x009 (rule R68). -/
def encCsr (src : Reg) (f3 : BitVec 3) (rd : Reg) : Word :=
  encR 0b0000000#7 0b01001#5 src f3 rd opSystem

/-- The word of an instruction, from the encoding of its opcode-table row. -/
def encode : Instr → Word
  | .rdov rd => encCsr 0#5 0b010#3 rd
  | .clrov => encCsr 1#5 0b111#3 0#5
  | .csrrw rd rs1 => encCsr rs1 0b001#3 rd
  | .csrrs rd rs1 => encCsr rs1 0b010#3 rd
  | .csrrc rd rs1 => encCsr rs1 0b011#3 rd
  | .csrrwi rd uimm => encCsr uimm 0b101#3 rd
  | .csrrsi rd uimm => encCsr uimm 0b110#3 rd
  | .csrrci rd uimm => encCsr uimm 0b111#3 rd
  | .lw rd rs1 imm => encI imm rs1 0b010#3 rd opLoad
  | .sw rs2 rs1 imm => encS imm rs2 rs1 0b010#3 opStore
  | .ld rd rs1 imm => encI imm rs1 0b011#3 rd opLoad
  | .sd rs2 rs1 imm => encS imm rs2 rs1 0b011#3 opStore
  | .addi rd rs1 imm => encI imm rs1 0b000#3 rd opImm
  | .lui rd imm => encU imm rd opLui
  | .bne rs1 rs2 offset => encB offset rs2 rs1 0b001#3 opBranch
  | .clz rd rs1 => encR 0b0110000#7 0b00000#5 rs1 0b001#3 rd opImm
  | .cmix rd rs1 rs2 rs3 => encR4 rs3 0b11#2 rs2 rs1 0b001#3 rd opOp
  | .fsr rd rs1 rs2 rs3 => encR4 rs3 0b10#2 rs2 rs1 0b101#3 rd opOp
  | .fsri rd rs1 rs3 imm => encFsri rs3 imm rs1 rd
  | .fsrw rd rs1 rs2 rs3 => encR4 rs3 0b10#2 rs2 rs1 0b101#3 rd opOp32
  | .max rd rs1 rs2 => encR 0b0000101#7 rs2 rs1 0b110#3 rd opOp
  | .min rd rs1 rs2 => encR 0b0000101#7 rs2 rs1 0b100#3 rd opOp
  | .pack rd rs1 rs2 => encR 0b0000100#7 rs2 rs1 0b100#3 rd opOp
  | .packu rd rs1 rs2 => encR 0b0100100#7 rs2 rs1 0b100#3 rd opOp
  | .revRv32 rd rs1 => encR 0b0110100#7 0b11111#5 rs1 0b101#3 rd opImm
  | .revRv64 rd rs1 => encR 0b0110101#7 0b11111#5 rs1 0b101#3 rd opImm
  | .rev8H rd rs1 => encR 0b0110100#7 0b01000#5 rs1 0b101#3 rd opImm
  | .bpick rd rs1 rs2 rc => encR4 rc 0b00#2 rs2 rs1 0b011#3 rd opP
  | .maxw rd rs1 rs2 => encR 0b1111001#7 rs2 rs1 0b000#3 rd opP
  | .minw rd rs1 rs2 => encR 0b1111000#7 rs2 rs1 0b000#3 rd opP
  | .add16 rd rs1 rs2 => encR 0b0100000#7 rs2 rs1 0b000#3 rd opP
  | .radd16 rd rs1 rs2 => encR 0b0000000#7 rs2 rs1 0b000#3 rd opP
  | .uradd16 rd rs1 rs2 => encR 0b0010000#7 rs2 rs1 0b000#3 rd opP
  | .kadd16 rd rs1 rs2 => encR 0b0001000#7 rs2 rs1 0b000#3 rd opP
  | .ukadd16 rd rs1 rs2 => encR 0b0011000#7 rs2 rs1 0b000#3 rd opP
  | .sub16 rd rs1 rs2 => encR 0b0100001#7 rs2 rs1 0b000#3 rd opP
  | .rsub16 rd rs1 rs2 => encR 0b0000001#7 rs2 rs1 0b000#3 rd opP
  | .ursub16 rd rs1 rs2 => encR 0b0010001#7 rs2 rs1 0b000#3 rd opP
  | .ksub16 rd rs1 rs2 => encR 0b0001001#7 rs2 rs1 0b000#3 rd opP
  | .uksub16 rd rs1 rs2 => encR 0b0011001#7 rs2 rs1 0b000#3 rd opP
  | .cras16 rd rs1 rs2 => encR 0b0100010#7 rs2 rs1 0b000#3 rd opP
  | .rcras16 rd rs1 rs2 => encR 0b0000010#7 rs2 rs1 0b000#3 rd opP
  | .urcras16 rd rs1 rs2 => encR 0b0010010#7 rs2 rs1 0b000#3 rd opP
  | .kcras16 rd rs1 rs2 => encR 0b0001010#7 rs2 rs1 0b000#3 rd opP
  | .ukcras16 rd rs1 rs2 => encR 0b0011010#7 rs2 rs1 0b000#3 rd opP
  | .crsa16 rd rs1 rs2 => encR 0b0100011#7 rs2 rs1 0b000#3 rd opP
  | .rcrsa16 rd rs1 rs2 => encR 0b0000011#7 rs2 rs1 0b000#3 rd opP
  | .urcrsa16 rd rs1 rs2 => encR 0b0010011#7 rs2 rs1 0b000#3 rd opP
  | .kcrsa16 rd rs1 rs2 => encR 0b0001011#7 rs2 rs1 0b000#3 rd opP
  | .ukcrsa16 rd rs1 rs2 => encR 0b0011011#7 rs2 rs1 0b000#3 rd opP
  | .stas16 rd rs1 rs2 => encR 0b1111010#7 rs2 rs1 0b010#3 rd opP
  | .rstas16 rd rs1 rs2 => encR 0b1011010#7 rs2 rs1 0b010#3 rd opP
  | .urstas16 rd rs1 rs2 => encR 0b1101010#7 rs2 rs1 0b010#3 rd opP
  | .kstas16 rd rs1 rs2 => encR 0b1100010#7 rs2 rs1 0b010#3 rd opP
  | .ukstas16 rd rs1 rs2 => encR 0b1110010#7 rs2 rs1 0b010#3 rd opP
  | .stsa16 rd rs1 rs2 => encR 0b1111011#7 rs2 rs1 0b010#3 rd opP
  | .rstsa16 rd rs1 rs2 => encR 0b1011011#7 rs2 rs1 0b010#3 rd opP
  | .urstsa16 rd rs1 rs2 => encR 0b1101011#7 rs2 rs1 0b010#3 rd opP
  | .kstsa16 rd rs1 rs2 => encR 0b1100011#7 rs2 rs1 0b010#3 rd opP
  | .ukstsa16 rd rs1 rs2 => encR 0b1110011#7 rs2 rs1 0b010#3 rd opP
  | .add8 rd rs1 rs2 => encR 0b0100100#7 rs2 rs1 0b000#3 rd opP
  | .radd8 rd rs1 rs2 => encR 0b0000100#7 rs2 rs1 0b000#3 rd opP
  | .uradd8 rd rs1 rs2 => encR 0b0010100#7 rs2 rs1 0b000#3 rd opP
  | .kadd8 rd rs1 rs2 => encR 0b0001100#7 rs2 rs1 0b000#3 rd opP
  | .ukadd8 rd rs1 rs2 => encR 0b0011100#7 rs2 rs1 0b000#3 rd opP
  | .sub8 rd rs1 rs2 => encR 0b0100101#7 rs2 rs1 0b000#3 rd opP
  | .rsub8 rd rs1 rs2 => encR 0b0000101#7 rs2 rs1 0b000#3 rd opP
  | .ursub8 rd rs1 rs2 => encR 0b0010101#7 rs2 rs1 0b000#3 rd opP
  | .ksub8 rd rs1 rs2 => encR 0b0001101#7 rs2 rs1 0b000#3 rd opP
  | .uksub8 rd rs1 rs2 => encR 0b0011101#7 rs2 rs1 0b000#3 rd opP
  | .sra16 rd rs1 rs2 => encR 0b0101000#7 rs2 rs1 0b000#3 rd opP
  | .srai16 rd rs1 imm => encR 0b0111000#7 (0b0#1 ++ imm) rs1 0b000#3 rd opP
  | .sra16U rd rs1 rs2 => encR 0b0110000#7 rs2 rs1 0b000#3 rd opP
  | .srai16U rd rs1 imm => encR 0b0111000#7 (0b1#1 ++ imm) rs1 0b000#3 rd opP
  | .srl16 rd rs1 rs2 => encR 0b0101001#7 rs2 rs1 0b000#3 rd opP
  | .srli16 rd rs1 imm => encR 0b0111001#7 (0b0#1 ++ imm) rs1 0b000#3 rd opP
  | .srl16U rd rs1 rs2 => encR 0b0110001#7 rs2 rs1 0b000#3 rd opP
  | .srli16U rd rs1 imm => encR 0b0111001#7 (0b1#1 ++ imm) rs1 0b000#3 rd opP
  | .sll16 rd rs1 rs2 => encR 0b0101010#7 rs2 rs1 0b000#3 rd opP
  | .slli16 rd rs1 imm => encR 0b0111010#7 (0b0#1 ++ imm) rs1 0b000#3 rd opP
  | .ksll16 rd rs1 rs2 => encR 0b0110010#7 rs2 rs1 0b000#3 rd opP
  | .kslli16 rd rs1 imm => encR 0b0111010#7 (0b1#1 ++ imm) rs1 0b000#3 rd opP
  | .kslra16 rd rs1 rs2 => encR 0b0101011#7 rs2 rs1 0b000#3 rd opP
  | .kslra16U rd rs1 rs2 => encR 0b0110011#7 rs2 rs1 0b000#3 rd opP
  | .sra8 rd rs1 rs2 => encR 0b0101100#7 rs2 rs1 0b000#3 rd opP
  | .srai8 rd rs1 imm => encR 0b0111100#7 (0b00#2 ++ imm) rs1 0b000#3 rd opP
  | .sra8U rd rs1 rs2 => encR 0b0110100#7 rs2 rs1 0b000#3 rd opP
  | .srai8U rd rs1 imm => encR 0b0111100#7 (0b01#2 ++ imm) rs1 0b000#3 rd opP
  | .srl8 rd rs1 rs2 => encR 0b0101101#7 rs2 rs1 0b000#3 rd opP
  | .srli8 rd rs1 imm => encR 0b0111101#7 (0b00#2 ++ imm) rs1 0b000#3 rd opP
  | .srl8U rd rs1 rs2 => encR 0b0110101#7 rs2 rs1 0b000#3 rd opP
  | .srli8U rd rs1 imm => encR 0b0111101#7 (0b01#2 ++ imm) rs1 0b000#3 rd opP
  | .sll8 rd rs1 rs2 => encR 0b0101110#7 rs2 rs1 0b000#3 rd opP
  | .slli8 rd rs1 imm => encR 0b0111110#7 (0b00#2 ++ imm) rs1 0b000#3 rd opP
  | .ksll8 rd rs1 rs2 => encR 0b0110110#7 rs2 rs1 0b000#3 rd opP
  | .kslli8 rd rs1 imm => encR 0b0111110#7 (0b01#2 ++ imm) rs1 0b000#3 rd opP
  | .kslra8 rd rs1 rs2 => encR 0b0101111#7 rs2 rs1 0b000#3 rd opP
  | .kslra8U rd rs1 rs2 => encR 0b0110111#7 rs2 rs1 0b000#3 rd opP
  | .cmpeq16 rd rs1 rs2 => encR 0b0100110#7 rs2 rs1 0b000#3 rd opP
  | .scmplt16 rd rs1 rs2 => encR 0b0000110#7 rs2 rs1 0b000#3 rd opP
  | .scmple16 rd rs1 rs2 => encR 0b0001110#7 rs2 rs1 0b000#3 rd opP
  | .ucmplt16 rd rs1 rs2 => encR 0b0010110#7 rs2 rs1 0b000#3 rd opP
  | .ucmple16 rd rs1 rs2 => encR 0b0011110#7 rs2 rs1 0b000#3 rd opP
  | .cmpeq8 rd rs1 rs2 => encR 0b0100111#7 rs2 rs1 0b000#3 rd opP
  | .scmplt8 rd rs1 rs2 => encR 0b0000111#7 rs2 rs1 0b000#3 rd opP
  | .scmple8 rd rs1 rs2 => encR 0b0001111#7 rs2 rs1 0b000#3 rd opP
  | .ucmplt8 rd rs1 rs2 => encR 0b0010111#7 rs2 rs1 0b000#3 rd opP
  | .ucmple8 rd rs1 rs2 => encR 0b0011111#7 rs2 rs1 0b000#3 rd opP
  | .smin16 rd rs1 rs2 => encR 0b1000000#7 rs2 rs1 0b000#3 rd opP
  | .umin16 rd rs1 rs2 => encR 0b1001000#7 rs2 rs1 0b000#3 rd opP
  | .smax16 rd rs1 rs2 => encR 0b1000001#7 rs2 rs1 0b000#3 rd opP
  | .umax16 rd rs1 rs2 => encR 0b1001001#7 rs2 rs1 0b000#3 rd opP
  | .sclip16 rd rs1 imm => encR 0b1000010#7 (0b0#1 ++ imm) rs1 0b000#3 rd opP
  | .uclip16 rd rs1 imm => encR 0b1000010#7 (0b1#1 ++ imm) rs1 0b000#3 rd opP
  | .kabs16 rd rs1 => encR 0b1010110#7 0b10001#5 rs1 0b000#3 rd opP
  | .clrs16 rd rs1 => encR 0b1010111#7 0b01000#5 rs1 0b000#3 rd opP
  | .clz16 rd rs1 => encR 0b1010111#7 0b01001#5 rs1 0b000#3 rd opP
  | .swap16 rd rs1 => encR 0b0001111#7 rs1 rs1 0b001#3 rd opP
  | .smin8 rd rs1 rs2 => encR 0b1000100#7 rs2 rs1 0b000#3 rd opP
  | .umin8 rd rs1 rs2 => encR 0b1001100#7 rs2 rs1 0b000#3 rd opP
  | .smax8 rd rs1 rs2 => encR 0b1000101#7 rs2 rs1 0b000#3 rd opP
  | .umax8 rd rs1 rs2 => encR 0b1001101#7 rs2 rs1 0b000#3 rd opP
  | .kabs8 rd rs1 => encR 0b1010110#7 0b10000#5 rs1 0b000#3 rd opP
  | .sclip8 rd rs1 imm => encR 0b1000110#7 (0b00#2 ++ imm) rs1 0b000#3 rd opP
  | .uclip8 rd rs1 imm => encR 0b1000110#7 (0b10#2 ++ imm) rs1 0b000#3 rd opP
  | .clrs8 rd rs1 => encR 0b1010111#7 0b00000#5 rs1 0b000#3 rd opP
  | .clz8 rd rs1 => encR 0b1010111#7 0b00001#5 rs1 0b000#3 rd opP
  | .swap8 rd rs1 => encR 0b1010110#7 0b11000#5 rs1 0b000#3 rd opP
  | .sunpkd810 rd rs1 => encR 0b1010110#7 0b01000#5 rs1 0b000#3 rd opP
  | .sunpkd820 rd rs1 => encR 0b1010110#7 0b01001#5 rs1 0b000#3 rd opP
  | .sunpkd830 rd rs1 => encR 0b1010110#7 0b01010#5 rs1 0b000#3 rd opP
  | .sunpkd831 rd rs1 => encR 0b1010110#7 0b01011#5 rs1 0b000#3 rd opP
  | .sunpkd832 rd rs1 => encR 0b1010110#7 0b10011#5 rs1 0b000#3 rd opP
  | .zunpkd810 rd rs1 => encR 0b1010110#7 0b01100#5 rs1 0b000#3 rd opP
  | .zunpkd820 rd rs1 => encR 0b1010110#7 0b01101#5 rs1 0b000#3 rd opP
  | .zunpkd830 rd rs1 => encR 0b1010110#7 0b01110#5 rs1 0b000#3 rd opP
  | .zunpkd831 rd rs1 => encR 0b1010110#7 0b01111#5 rs1 0b000#3 rd opP
  | .zunpkd832 rd rs1 => encR 0b1010110#7 0b10111#5 rs1 0b000#3 rd opP
  | .smul16 rd rs1 rs2 => encR 0b1010000#7 rs2 rs1 0b000#3 rd opP
  | .smulx16 rd rs1 rs2 => encR 0b1010001#7 rs2 rs1 0b000#3 rd opP
  | .umul16 rd rs1 rs2 => encR 0b1011000#7 rs2 rs1 0b000#3 rd opP
  | .umulx16 rd rs1 rs2 => encR 0b1011001#7 rs2 rs1 0b000#3 rd opP
  | .khm16 rd rs1 rs2 => encR 0b1000011#7 rs2 rs1 0b000#3 rd opP
  | .khmx16 rd rs1 rs2 => encR 0b1001011#7 rs2 rs1 0b000#3 rd opP
  | .smul8 rd rs1 rs2 => encR 0b1010100#7 rs2 rs1 0b000#3 rd opP
  | .smulx8 rd rs1 rs2 => encR 0b1010101#7 rs2 rs1 0b000#3 rd opP
  | .umul8 rd rs1 rs2 => encR 0b1011100#7 rs2 rs1 0b000#3 rd opP
  | .umulx8 rd rs1 rs2 => encR 0b1011101#7 rs2 rs1 0b000#3 rd opP
  | .khm8 rd rs1 rs2 => encR 0b1000111#7 rs2 rs1 0b000#3 rd opP
  | .khmx8 rd rs1 rs2 => encR 0b1001111#7 rs2 rs1 0b000#3 rd opP
  | .pkbb16 rd rs1 rs2 => encR 0b0000111#7 rs2 rs1 0b001#3 rd opP
  | .pkbt16 rd rs1 rs2 => encR 0b0001111#7 rs2 rs1 0b001#3 rd opP
  | .pktt16 rd rs1 rs2 => encR 0b0010111#7 rs2 rs1 0b001#3 rd opP
  | .pktb16 rd rs1 rs2 => encR 0b0011111#7 rs2 rs1 0b001#3 rd opP
  | .smmul rd rs1 rs2 => encR 0b0100000#7 rs2 rs1 0b001#3 rd opP
  | .smmulRv32 rd rs1 rs2 => encR 0b0000001#7 rs2 rs1 0b001#3 rd opOp
  | .smmulU rd rs1 rs2 => encR 0b0101000#7 rs2 rs1 0b001#3 rd opP
  | .kmmac rd rs1 rs2 => encR 0b0110000#7 rs2 rs1 0b001#3 rd opP
  | .kmmacU rd rs1 rs2 => encR 0b0111000#7 rs2 rs1 0b001#3 rd opP
  | .kmmsb rd rs1 rs2 => encR 0b0100001#7 rs2 rs1 0b001#3 rd opP
  | .kmmsbU rd rs1 rs2 => encR 0b0101001#7 rs2 rs1 0b001#3 rd opP
  | .kwmmul rd rs1 rs2 => encR 0b0110001#7 rs2 rs1 0b001#3 rd opP
  | .kwmmulU rd rs1 rs2 => encR 0b0111001#7 rs2 rs1 0b001#3 rd opP
  | .smmwb rd rs1 rs2 => encR 0b0100010#7 rs2 rs1 0b001#3 rd opP
  | .smmwbU rd rs1 rs2 => encR 0b0101010#7 rs2 rs1 0b001#3 rd opP
  | .smmwt rd rs1 rs2 => encR 0b0110010#7 rs2 rs1 0b001#3 rd opP
  | .smmwtU rd rs1 rs2 => encR 0b0111010#7 rs2 rs1 0b001#3 rd opP
  | .kmmawb rd rs1 rs2 => encR 0b0100011#7 rs2 rs1 0b001#3 rd opP
  | .kmmawbU rd rs1 rs2 => encR 0b0101011#7 rs2 rs1 0b001#3 rd opP
  | .kmmawt rd rs1 rs2 => encR 0b0110011#7 rs2 rs1 0b001#3 rd opP
  | .kmmawtU rd rs1 rs2 => encR 0b0111011#7 rs2 rs1 0b001#3 rd opP
  | .kmmwb2 rd rs1 rs2 => encR 0b1000111#7 rs2 rs1 0b001#3 rd opP
  | .kmmwb2U rd rs1 rs2 => encR 0b1001111#7 rs2 rs1 0b001#3 rd opP
  | .kmmwt2 rd rs1 rs2 => encR 0b1010111#7 rs2 rs1 0b001#3 rd opP
  | .kmmwt2U rd rs1 rs2 => encR 0b1011111#7 rs2 rs1 0b001#3 rd opP
  | .kmmawb2 rd rs1 rs2 => encR 0b1100111#7 rs2 rs1 0b001#3 rd opP
  | .kmmawb2U rd rs1 rs2 => encR 0b1101111#7 rs2 rs1 0b001#3 rd opP
  | .kmmawt2 rd rs1 rs2 => encR 0b1110111#7 rs2 rs1 0b001#3 rd opP
  | .kmmawt2U rd rs1 rs2 => encR 0b1111111#7 rs2 rs1 0b001#3 rd opP
  | .smbb16 rd rs1 rs2 => encR 0b0000100#7 rs2 rs1 0b001#3 rd opP
  | .smbt16 rd rs1 rs2 => encR 0b0001100#7 rs2 rs1 0b001#3 rd opP
  | .smtt16 rd rs1 rs2 => encR 0b0010100#7 rs2 rs1 0b001#3 rd opP
  | .kmda rd rs1 rs2 => encR 0b0011100#7 rs2 rs1 0b001#3 rd opP
  | .kmxda rd rs1 rs2 => encR 0b0011101#7 rs2 rs1 0b001#3 rd opP
  | .smds rd rs1 rs2 => encR 0b0101100#7 rs2 rs1 0b001#3 rd opP
  | .smdrs rd rs1 rs2 => encR 0b0110100#7 rs2 rs1 0b001#3 rd opP
  | .smxds rd rs1 rs2 => encR 0b0111100#7 rs2 rs1 0b001#3 rd opP
  | .kmabb rd rs1 rs2 => encR 0b0101101#7 rs2 rs1 0b001#3 rd opP
  | .kmabt rd rs1 rs2 => encR 0b0110101#7 rs2 rs1 0b001#3 rd opP
  | .kmatt rd rs1 rs2 => encR 0b0111101#7 rs2 rs1 0b001#3 rd opP
  | .kmada rd rs1 rs2 => encR 0b0100100#7 rs2 rs1 0b001#3 rd opP
  | .kmaxda rd rs1 rs2 => encR 0b0100101#7 rs2 rs1 0b001#3 rd opP
  | .kmads rd rs1 rs2 => encR 0b0101110#7 rs2 rs1 0b001#3 rd opP
  | .kmadrs rd rs1 rs2 => encR 0b0110110#7 rs2 rs1 0b001#3 rd opP
  | .kmaxds rd rs1 rs2 => encR 0b0111110#7 rs2 rs1 0b001#3 rd opP
  | .kmsda rd rs1 rs2 => encR 0b0100110#7 rs2 rs1 0b001#3 rd opP
  | .kmsxda rd rs1 rs2 => encR 0b0100111#7 rs2 rs1 0b001#3 rd opP
  | .smal rd rs1 rs2 => encR 0b0101111#7 rs2 rs1 0b001#3 rd opP
  | .sclip32 rd rs1 imm => encR 0b1110010#7 imm rs1 0b000#3 rd opP
  | .uclip32 rd rs1 imm => encR 0b1111010#7 imm rs1 0b000#3 rd opP
  | .clrs32 rd rs1 => encR 0b1010111#7 0b11000#5 rs1 0b000#3 rd opP
  | .clz32 rd rs1 => encR 0b1010111#7 0b11001#5 rs1 0b000#3 rd opP
  | .pbsad rd rs1 rs2 => encR 0b1111110#7 rs2 rs1 0b000#3 rd opP
  | .pbsada rd rs1 rs2 => encR 0b1111111#7 rs2 rs1 0b000#3 rd opP
  | .smaqa rd rs1 rs2 => encR 0b1100100#7 rs2 rs1 0b000#3 rd opP
  | .umaqa rd rs1 rs2 => encR 0b1100110#7 rs2 rs1 0b000#3 rd opP
  | .smaqaSu rd rs1 rs2 => encR 0b1100101#7 rs2 rs1 0b000#3 rd opP
  | .add64 rd rs1 rs2 => encR 0b1100000#7 rs2 rs1 0b001#3 rd opP
  | .radd64 rd rs1 rs2 => encR 0b1000000#7 rs2 rs1 0b001#3 rd opP
  | .uradd64 rd rs1 rs2 => encR 0b1010000#7 rs2 rs1 0b001#3 rd opP
  | .kadd64 rd rs1 rs2 => encR 0b1001000#7 rs2 rs1 0b001#3 rd opP
  | .ukadd64 rd rs1 rs2 => encR 0b1011000#7 rs2 rs1 0b001#3 rd opP
  | .sub64 rd rs1 rs2 => encR 0b1100001#7 rs2 rs1 0b001#3 rd opP
  | .rsub64 rd rs1 rs2 => encR 0b1000001#7 rs2 rs1 0b001#3 rd opP
  | .ursub64 rd rs1 rs2 => encR 0b1010001#7 rs2 rs1 0b001#3 rd opP
  | .ksub64 rd rs1 rs2 => encR 0b1001001#7 rs2 rs1 0b001#3 rd opP
  | .uksub64 rd rs1 rs2 => encR 0b1011001#7 rs2 rs1 0b001#3 rd opP
  | .smar64 rd rs1 rs2 => encR 0b1000010#7 rs2 rs1 0b001#3 rd opP
  | .smsr64 rd rs1 rs2 => encR 0b1000011#7 rs2 rs1 0b001#3 rd opP
  | .umar64 rd rs1 rs2 => encR 0b1010010#7 rs2 rs1 0b001#3 rd opP
  | .umsr64 rd rs1 rs2 => encR 0b1010011#7 rs2 rs1 0b001#3 rd opP
  | .kmar64 rd rs1 rs2 => encR 0b1001010#7 rs2 rs1 0b001#3 rd opP
  | .kmsr64 rd rs1 rs2 => encR 0b1001011#7 rs2 rs1 0b001#3 rd opP
  | .ukmar64 rd rs1 rs2 => encR 0b1011010#7 rs2 rs1 0b001#3 rd opP
  | .ukmsr64 rd rs1 rs2 => encR 0b1011011#7 rs2 rs1 0b001#3 rd opP
  | .smalbb rd rs1 rs2 => encR 0b1000100#7 rs2 rs1 0b001#3 rd opP
  | .smalbt rd rs1 rs2 => encR 0b1001100#7 rs2 rs1 0b001#3 rd opP
  | .smaltt rd rs1 rs2 => encR 0b1010100#7 rs2 rs1 0b001#3 rd opP
  | .smalda rd rs1 rs2 => encR 0b1000110#7 rs2 rs1 0b001#3 rd opP
  | .smalxda rd rs1 rs2 => encR 0b1001110#7 rs2 rs1 0b001#3 rd opP
  | .smalds rd rs1 rs2 => encR 0b1000101#7 rs2 rs1 0b001#3 rd opP
  | .smaldrs rd rs1 rs2 => encR 0b1001101#7 rs2 rs1 0b001#3 rd opP
  | .smalxds rd rs1 rs2 => encR 0b1010101#7 rs2 rs1 0b001#3 rd opP
  | .smslda rd rs1 rs2 => encR 0b1010110#7 rs2 rs1 0b001#3 rd opP
  | .smslxda rd rs1 rs2 => encR 0b1011110#7 rs2 rs1 0b001#3 rd opP
  | .kaddh rd rs1 rs2 => encR 0b0000010#7 rs2 rs1 0b001#3 rd opP
  | .ksubh rd rs1 rs2 => encR 0b0000011#7 rs2 rs1 0b001#3 rd opP
  | .ukaddh rd rs1 rs2 => encR 0b0001010#7 rs2 rs1 0b001#3 rd opP
  | .uksubh rd rs1 rs2 => encR 0b0001011#7 rs2 rs1 0b001#3 rd opP
  | .khmbb rd rs1 rs2 => encR 0b0000110#7 rs2 rs1 0b001#3 rd opP
  | .khmbt rd rs1 rs2 => encR 0b0001110#7 rs2 rs1 0b001#3 rd opP
  | .khmtt rd rs1 rs2 => encR 0b0010110#7 rs2 rs1 0b001#3 rd opP
  | .kaddw rd rs1 rs2 => encR 0b0000000#7 rs2 rs1 0b001#3 rd opP
  | .ukaddw rd rs1 rs2 => encR 0b0001000#7 rs2 rs1 0b001#3 rd opP
  | .ksubw rd rs1 rs2 => encR 0b0000001#7 rs2 rs1 0b001#3 rd opP
  | .uksubw rd rs1 rs2 => encR 0b0001001#7 rs2 rs1 0b001#3 rd opP
  | .kdmbb rd rs1 rs2 => encR 0b0000101#7 rs2 rs1 0b001#3 rd opP
  | .kdmbt rd rs1 rs2 => encR 0b0001101#7 rs2 rs1 0b001#3 rd opP
  | .kdmtt rd rs1 rs2 => encR 0b0010101#7 rs2 rs1 0b001#3 rd opP
  | .kslraw rd rs1 rs2 => encR 0b0110111#7 rs2 rs1 0b001#3 rd opP
  | .kslrawU rd rs1 rs2 => encR 0b0111111#7 rs2 rs1 0b001#3 rd opP
  | .ksllw rd rs1 rs2 => encR 0b0010011#7 rs2 rs1 0b001#3 rd opP
  | .kslliw rd rs1 imm => encR 0b0011011#7 imm rs1 0b001#3 rd opP
  | .kdmabb rd rs1 rs2 => encR 0b1101001#7 rs2 rs1 0b001#3 rd opP
  | .kdmabt rd rs1 rs2 => encR 0b1110001#7 rs2 rs1 0b001#3 rd opP
  | .kdmatt rd rs1 rs2 => encR 0b1111001#7 rs2 rs1 0b001#3 rd opP
  | .kabsw rd rs1 => encR 0b1010110#7 0b10100#5 rs1 0b000#3 rd opP
  | .raddw rd rs1 rs2 => encR 0b0010000#7 rs2 rs1 0b001#3 rd opP
  | .uraddw rd rs1 rs2 => encR 0b0011000#7 rs2 rs1 0b001#3 rd opP
  | .rsubw rd rs1 rs2 => encR 0b0010001#7 rs2 rs1 0b001#3 rd opP
  | .ursubw rd rs1 rs2 => encR 0b0011001#7 rs2 rs1 0b001#3 rd opP
  | .mulr64 rd rs1 rs2 => encR 0b1111000#7 rs2 rs1 0b001#3 rd opP
  | .mulsr64 rd rs1 rs2 => encR 0b1110000#7 rs2 rs1 0b001#3 rd opP
  | .msubr32 rd rs1 rs2 => encR 0b1100011#7 rs2 rs1 0b001#3 rd opP
  | .ave rd rs1 rs2 => encR 0b1110000#7 rs2 rs1 0b000#3 rd opP
  | .sraU rd rs1 rs2 => encR 0b0010010#7 rs2 rs1 0b001#3 rd opP
  | .bitrev rd rs1 rs2 => encR 0b1110011#7 rs2 rs1 0b000#3 rd opP
  | .bitreviRv32 rd rs1 imm => encR 0b1110100#7 imm rs1 0b000#3 rd opP
  | .bitreviRv64 rd rs1 imm => encR (0b111010#6 ++ imm.extractLsb' 5 1) (imm.extractLsb' 0 5) rs1 0b000#3 rd opP
  | .sraiURv32 rd rs1 imm => encR 0b1101010#7 imm rs1 0b001#3 rd opP
  | .sraiURv64 rd rs1 imm => encR (0b110101#6 ++ imm.extractLsb' 5 1) (imm.extractLsb' 0 5) rs1 0b001#3 rd opP
  | .insbRv32 rd rs1 imm => encR 0b1010110#7 (0b000#3 ++ imm) rs1 0b000#3 rd opP
  | .insbRv64 rd rs1 imm => encR 0b1010110#7 (0b00#2 ++ imm) rs1 0b000#3 rd opP
  | .wext rd rs1 rs2 => encR 0b1100111#7 rs2 rs1 0b000#3 rd opP
  | .wexti rd rs1 imm => encR 0b1101111#7 imm rs1 0b000#3 rd opP
  | .maddr32 rd rs1 rs2 => encR 0b1100010#7 rs2 rs1 0b001#3 rd opP
  | .add32 rd rs1 rs2 => encR 0b0100000#7 rs2 rs1 0b010#3 rd opP
  | .radd32 rd rs1 rs2 => encR 0b0000000#7 rs2 rs1 0b010#3 rd opP
  | .uradd32 rd rs1 rs2 => encR 0b0010000#7 rs2 rs1 0b010#3 rd opP
  | .kadd32 rd rs1 rs2 => encR 0b0001000#7 rs2 rs1 0b010#3 rd opP
  | .ukadd32 rd rs1 rs2 => encR 0b0011000#7 rs2 rs1 0b010#3 rd opP
  | .sub32 rd rs1 rs2 => encR 0b0100001#7 rs2 rs1 0b010#3 rd opP
  | .rsub32 rd rs1 rs2 => encR 0b0000001#7 rs2 rs1 0b010#3 rd opP
  | .ursub32 rd rs1 rs2 => encR 0b0010001#7 rs2 rs1 0b010#3 rd opP
  | .ksub32 rd rs1 rs2 => encR 0b0001001#7 rs2 rs1 0b010#3 rd opP
  | .uksub32 rd rs1 rs2 => encR 0b0011001#7 rs2 rs1 0b010#3 rd opP
  | .cras32 rd rs1 rs2 => encR 0b0100010#7 rs2 rs1 0b010#3 rd opP
  | .rcras32 rd rs1 rs2 => encR 0b0000010#7 rs2 rs1 0b010#3 rd opP
  | .urcras32 rd rs1 rs2 => encR 0b0010010#7 rs2 rs1 0b010#3 rd opP
  | .kcras32 rd rs1 rs2 => encR 0b0001010#7 rs2 rs1 0b010#3 rd opP
  | .ukcras32 rd rs1 rs2 => encR 0b0011010#7 rs2 rs1 0b010#3 rd opP
  | .crsa32 rd rs1 rs2 => encR 0b0100011#7 rs2 rs1 0b010#3 rd opP
  | .rcrsa32 rd rs1 rs2 => encR 0b0000011#7 rs2 rs1 0b010#3 rd opP
  | .urcrsa32 rd rs1 rs2 => encR 0b0010011#7 rs2 rs1 0b010#3 rd opP
  | .kcrsa32 rd rs1 rs2 => encR 0b0001011#7 rs2 rs1 0b010#3 rd opP
  | .ukcrsa32 rd rs1 rs2 => encR 0b0011011#7 rs2 rs1 0b010#3 rd opP
  | .stas32 rd rs1 rs2 => encR 0b1111000#7 rs2 rs1 0b010#3 rd opP
  | .rstas32 rd rs1 rs2 => encR 0b1011000#7 rs2 rs1 0b010#3 rd opP
  | .urstas32 rd rs1 rs2 => encR 0b1101000#7 rs2 rs1 0b010#3 rd opP
  | .kstas32 rd rs1 rs2 => encR 0b1100000#7 rs2 rs1 0b010#3 rd opP
  | .ukstas32 rd rs1 rs2 => encR 0b1110000#7 rs2 rs1 0b010#3 rd opP
  | .stsa32 rd rs1 rs2 => encR 0b1111001#7 rs2 rs1 0b010#3 rd opP
  | .rstsa32 rd rs1 rs2 => encR 0b1011001#7 rs2 rs1 0b010#3 rd opP
  | .urstsa32 rd rs1 rs2 => encR 0b1101001#7 rs2 rs1 0b010#3 rd opP
  | .kstsa32 rd rs1 rs2 => encR 0b1100001#7 rs2 rs1 0b010#3 rd opP
  | .ukstsa32 rd rs1 rs2 => encR 0b1110001#7 rs2 rs1 0b010#3 rd opP
  | .sra32 rd rs1 rs2 => encR 0b0101000#7 rs2 rs1 0b010#3 rd opP
  | .srai32 rd rs1 imm => encR 0b0111000#7 imm rs1 0b010#3 rd opP
  | .sra32U rd rs1 rs2 => encR 0b0110000#7 rs2 rs1 0b010#3 rd opP
  | .srai32U rd rs1 imm => encR 0b1000000#7 imm rs1 0b010#3 rd opP
  | .srl32 rd rs1 rs2 => encR 0b0101001#7 rs2 rs1 0b010#3 rd opP
  | .srli32 rd rs1 imm => encR 0b0111001#7 imm rs1 0b010#3 rd opP
  | .srl32U rd rs1 rs2 => encR 0b0110001#7 rs2 rs1 0b010#3 rd opP
  | .srli32U rd rs1 imm => encR 0b1000001#7 imm rs1 0b010#3 rd opP
  | .sll32 rd rs1 rs2 => encR 0b0101010#7 rs2 rs1 0b010#3 rd opP
  | .slli32 rd rs1 imm => encR 0b0111010#7 imm rs1 0b010#3 rd opP
  | .ksll32 rd rs1 rs2 => encR 0b0110010#7 rs2 rs1 0b010#3 rd opP
  | .kslli32 rd rs1 imm => encR 0b1000010#7 imm rs1 0b010#3 rd opP
  | .kslra32 rd rs1 rs2 => encR 0b0101011#7 rs2 rs1 0b010#3 rd opP
  | .kslra32U rd rs1 rs2 => encR 0b0110011#7 rs2 rs1 0b010#3 rd opP
  | .smin32 rd rs1 rs2 => encR 0b1001000#7 rs2 rs1 0b010#3 rd opP
  | .umin32 rd rs1 rs2 => encR 0b1010000#7 rs2 rs1 0b010#3 rd opP
  | .smax32 rd rs1 rs2 => encR 0b1001001#7 rs2 rs1 0b010#3 rd opP
  | .umax32 rd rs1 rs2 => encR 0b1010001#7 rs2 rs1 0b010#3 rd opP
  | .kabs32 rd rs1 => encR 0b1010110#7 0b10010#5 rs1 0b000#3 rd opP
  | .khmbb16 rd rs1 rs2 => encR 0b1101110#7 rs2 rs1 0b001#3 rd opP
  | .khmbt16 rd rs1 rs2 => encR 0b1110110#7 rs2 rs1 0b001#3 rd opP
  | .khmtt16 rd rs1 rs2 => encR 0b1111110#7 rs2 rs1 0b001#3 rd opP
  | .kdmbb16 rd rs1 rs2 => encR 0b1101101#7 rs2 rs1 0b001#3 rd opP
  | .kdmbt16 rd rs1 rs2 => encR 0b1110101#7 rs2 rs1 0b001#3 rd opP
  | .kdmtt16 rd rs1 rs2 => encR 0b1111101#7 rs2 rs1 0b001#3 rd opP
  | .kdmabb16 rd rs1 rs2 => encR 0b1101100#7 rs2 rs1 0b001#3 rd opP
  | .kdmabt16 rd rs1 rs2 => encR 0b1110100#7 rs2 rs1 0b001#3 rd opP
  | .kdmatt16 rd rs1 rs2 => encR 0b1111100#7 rs2 rs1 0b001#3 rd opP
  | .smbb32 rd rs1 rs2 => encR 0b1110000#7 rs2 rs1 0b001#3 rd opP
  | .smbt32 rd rs1 rs2 => encR 0b0001100#7 rs2 rs1 0b010#3 rd opP
  | .smtt32 rd rs1 rs2 => encR 0b0010100#7 rs2 rs1 0b010#3 rd opP
  | .kmabb32 rd rs1 rs2 => encR 0b0101101#7 rs2 rs1 0b010#3 rd opP
  | .kmabt32 rd rs1 rs2 => encR 0b0110101#7 rs2 rs1 0b010#3 rd opP
  | .kmatt32 rd rs1 rs2 => encR 0b0111101#7 rs2 rs1 0b010#3 rd opP
  | .kmda32 rd rs1 rs2 => encR 0b0011100#7 rs2 rs1 0b010#3 rd opP
  | .kmxda32 rd rs1 rs2 => encR 0b0011101#7 rs2 rs1 0b010#3 rd opP
  | .kmada32 rd rs1 rs2 => encR 0b1001010#7 rs2 rs1 0b001#3 rd opP
  | .kmaxda32 rd rs1 rs2 => encR 0b0100101#7 rs2 rs1 0b010#3 rd opP
  | .kmads32 rd rs1 rs2 => encR 0b0101110#7 rs2 rs1 0b010#3 rd opP
  | .kmadrs32 rd rs1 rs2 => encR 0b0110110#7 rs2 rs1 0b010#3 rd opP
  | .kmaxds32 rd rs1 rs2 => encR 0b0111110#7 rs2 rs1 0b010#3 rd opP
  | .kmsda32 rd rs1 rs2 => encR 0b0100110#7 rs2 rs1 0b010#3 rd opP
  | .kmsxda32 rd rs1 rs2 => encR 0b0100111#7 rs2 rs1 0b010#3 rd opP
  | .smds32 rd rs1 rs2 => encR 0b0101100#7 rs2 rs1 0b010#3 rd opP
  | .smdrs32 rd rs1 rs2 => encR 0b0110100#7 rs2 rs1 0b010#3 rd opP
  | .smxds32 rd rs1 rs2 => encR 0b0111100#7 rs2 rs1 0b010#3 rd opP
  | .sraiwU rd rs1 imm => encR 0b0011010#7 imm rs1 0b001#3 rd opP
  | .pkbb32 rd rs1 rs2 => encR 0b0000100#7 rs1 rs2 0b100#3 rd opOp
  | .pkbt32 rd rs1 rs2 => encR 0b0001111#7 rs2 rs1 0b010#3 rd opP
  | .pktb32 rd rs1 rs2 => encR 0b0011111#7 rs2 rs1 0b010#3 rd opP
  | .pktt32 rd rs1 rs2 => encR 0b0100100#7 rs1 rs2 0b100#3 rd opOp

/-- The instruction the decoder reads from the bits `w` of a word of `nbits` bits; an RV32-only row is read
as RV32 reads it (rule R71). -/
noncomputable def decodeTableWord (nbits w : Nat) : Option Instr :=
  let word := BitVec.ofNat 32 (w % 2 ^ nbits)
  match decode .rv64 word with
  | some i => some i
  | none => decode .rv32 word

end Sys2Proof
end

