-- ==== Sys2Proof/Machine/State.lean ====
section
/-!
DEFINITION. The state of the hart as plain data (10_state.md, 20_memory.md R41, 60_exceptions.md R553 and R554), the
reasons a step stops (R550, R557), and the state after reset (R34, R580).
-/

namespace Sys2Proof.Machine

/-- Everything the spec gives the machine (the list under State in INVENTORY.md). -/
structure State where
  /-- The parameters the machine was built with; no instruction writes them (rule R10, log entry 1). -/
  cfg : Config
  /-- `x0` to `x31` (rule R20). On RV32 a register is the low 32 bits. `x0` is read and written through
  `State.x` and `State.setX`, which make it read zero. -/
  regs : Vector XWord 32
  /-- The program counter (rule R21). On RV32 it is the low 32 bits. -/
  pc : XWord
  /-- `vxsat.OV`, the one stored bit of `vxsat` (rules R25, R26). -/
  ov : Bool
  /-- `mstatus.VS` (rules R30, R553), meaningful when `HAS_VS`. -/
  vs : VState
  /-- `vsstatus.VS` (rules R30, R554), meaningful when `HAS_H`. -/
  vsVs : VState
  /-- The current virtualization mode `V` (rules R30, R554), meaningful when `HAS_H`. -/
  v : Bool
  /-- Memory (rule R41): the bytes loaded or written so far, addresses strictly rising. An address that is not
  listed has no value (rule R580). -/
  mem : List Host.Cell
deriving DecidableEq, Repr

/-- The fault records of rule R550: the exception, the pc of the abandoned instruction and the exception's
information (rule R557). In each case the machine's state is as it was before the instruction. -/
inductive Fault where
  /-- A pc that is not a multiple of 4, or the target of a taken BNE that is not (R44, R83, R557); raised by the
  fetch and by BNE. Safe: the machine stops where the spec says the step ends. -/
  | instructionAddressMisaligned (pc target : XWord)
  /-- A fetched byte outside the memory region (R46, R557); raised by the fetch. Safe. -/
  | instructionAccessFault (pc : XWord)
  /-- A word that is no instruction of the configured hardware (R551), raised by the step and by the removed
  instructions; or an access to `vxsat` while VS is Off (R552, R554), raised by the instructions that access it.
  Safe. -/
  | illegalInstruction (pc : XWord) (word : Word)
  /-- A load from an address that is not a multiple of its size (R44, R51, R53). Safe. -/
  | loadAddressMisaligned (pc addr : XWord)
  /-- A load with a byte outside the memory region (R46, R51, R53). Safe. -/
  | loadAccessFault (pc addr : XWord)
  /-- A store to an address that is not a multiple of its size (R44, R52, R54). Safe. -/
  | storeAddressMisaligned (pc addr : XWord)
  /-- A store with a byte outside the memory region (R46, R52, R54). Safe. -/
  | storeAccessFault (pc addr : XWord)
  /-- A load or fetch of a byte that nothing has loaded or written, the program's own fault (R580, D10; log
  entry 6). Safe: the hardware reads some value there, the model none. -/
  | unwrittenMemory (pc addr : XWord)
deriving DecidableEq, Repr

/-- The reasons the model declines to run an instruction. -/
inductive Refusal where
  /-- No meaning is written for the instruction; raised by a refused arm of `exec`, of which there is none left.
  Safe: the model stops. -/
  | notModelled (mnemonic : String)
deriving DecidableEq, Repr

/-- The state after reset of a machine built with the parameters `c` (rules R34, R580). The GPRs are 0
(DESIGN CHOICE, log entry 2); no byte of memory is loaded. -/
def State.resetWith (c : Config) : State where
  cfg := c
  regs := Vector.replicate 32 0#64
  pc := c.resetPc
  ov := c.ovReset
  vs := c.vsReset
  vsVs := c.vsVsReset
  v := c.vReset
  mem := []

/-- The machine right after reset, with the default parameters (rule R580, log entries 1 to 5). -/
def State.reset : State := State.resetWith Config.default

end Sys2Proof.Machine
end

