-- ==== Sys2Proof/Machine/Flags.lean ====
section
/-!
DEFINITION. The integer primitives of rules R14 and R16, the clipping that sets `OV` (rules R15, R26), and what an
instruction that writes `vxsat` does to `mstatus.VS` and `vsstatus.VS` (rules R552 to R554).
-/

namespace Sys2Proof.Machine

/-- `u(v)`: the unsigned integer value of a bit vector (rule R14). -/
def uval {w : Nat} (v : BitVec w) : Int := (v.toNat : Int)

/-- `s(v)`: the two's-complement integer value of a bit vector (rule R14). -/
def sval {w : Nat} (v : BitVec w) : Int := v.toInt

/-- `trunc_N(k)`: the N-bit vector whose unsigned value is k mod 2^N (rule R14). -/
def trunc (w : Nat) (k : Int) : BitVec w := BitVec.ofInt w k

/-- `k >> n`: floor division by 2^n (rule R14). -/
def asr (k : Int) (n : Nat) : Int := k / 2 ^ n

/-- `k << n`: multiplication by 2^n (rule R14). -/
def shl (k : Int) (n : Nat) : Int := k * 2 ^ n

/-- The halving treatment of rule R131: the exact result shifted right by one. -/
def halve (k : Int) : Int := asr k 1

/-- `rnd_sra(k, n)` and `rnd_srl(k, n)`: a right shift with the most significant discarded bit added in
(rules R14, R16). -/
def rnd (k : Int) (n : Nat) : Int := if n = 0 then k else asr (asr k (n - 1) + 1) 1

/-- `abs(k)` (rule R14). -/
def iabs (k : Int) : Int := if k < 0 then -k else k

/-- A result and whether it was clipped on the way (rules R14, R15). -/
structure Clipped where
  val : Int
  clip : Bool
deriving DecidableEq, Repr

/-- `satq(n, k)`: k clipped to [-2^n, 2^n - 1] (rule R14). -/
def satq (n : Nat) (k : Int) : Clipped where
  val := max (-2 ^ n) (min (2 ^ n - 1) k)
  clip := decide (k < -2 ^ n ∨ 2 ^ n - 1 < k)

/-- `satu(m, k)`: k clipped to [0, 2^m - 1] (rule R14). -/
def satu (m : Nat) (k : Int) : Clipped where
  val := max 0 (min (2 ^ m - 1) k)
  clip := decide (k < 0 ∨ 2 ^ m - 1 < k)

/-- A result that does not clip. -/
def exact (k : Int) : Clipped := ⟨k, false⟩

/-- A second computation on a clipped value; a clip of either step counts (rule R584). -/
def Clipped.andThen (c : Clipped) (f : Int → Clipped) : Clipped :=
  ⟨(f c.val).val, c.clip || (f c.val).clip⟩

/-- The number of leading ones of a list of bits. -/
def leadingRun : List Bool → Nat
  | true :: rest => leadingRun rest + 1
  | _ => 0

/-- The bits of a value, the most significant first. -/
def msbFirst {w : Nat} (v : BitVec w) : List Bool := (List.range w).map fun i => v.getMsbD i

/-- The number of zero bits at the most significant end (rules R101, R243, R258, R343). -/
def clzOf {w : Nat} (v : BitVec w) : Int := (leadingRun (msbFirst (~~~v)) : Nat)

/-- The number of redundant sign bits: bits below the sign bit that equal it, counted from the top (rules R242,
R257, R344). -/
def clrsOf {w : Nat} (v : BitVec w) : Int :=
  (leadingRun ((msbFirst (if v.msb then v else ~~~v)).tail) : Nat)

/-- The state after `mstatus.VS` went from Initial or Clean to Dirty (rule R553). -/
def VState.touched (v : VState) : VState :=
  match v with
  | .off => .off
  | .initial => .dirty
  | .clean => .dirty
  | .dirty => .dirty

/-- Whether `vsstatus.VS` counts beside `mstatus.VS` (rule R554). -/
def State.virtual (s : State) : Bool := s.cfg.hasVs && s.cfg.hasH && s.v

/-- Rules R552 and R554: an access to `vxsat` is an illegal instruction now. -/
def State.vxsatOff (s : State) : Bool :=
  (s.cfg.hasVs && s.vs == .off) || (s.virtual && s.vsVs == .off)

/-- The completion of an instruction that writes `vxsat` (rules R553, R554). -/
def State.markDirty (s : State) : State :=
  { s with
    vs := if s.cfg.hasVs then VState.touched s.vs else s.vs
    vsVs := if s.virtual then VState.touched s.vsVs else s.vsVs }

/-- The completion of an instruction that can set `OV`: `OV` is sticky (rule R15), and VS becomes Dirty, at each
completion or only when something clipped, as `VS_DIRTY` says (rule R553). -/
def State.noteClip (s : State) (clip : Bool) : State :=
  let t := { s with ov := s.ov || clip }
  if s.cfg.vsDirty = .static ∨ clip = true then t.markDirty else t

/-- A write to the CSR `vxsat` (rules R26, R29, R553). -/
def State.setOv (s : State) (ov : Bool) : State := { s with ov := ov }.markDirty

end Sys2Proof.Machine
end

