-- ==== Sys2Proof/Machine/Operands.lean ====
section
/-!
DEFINITION. The operand forms: GPRs (R20), register pairs and 64-bit operands (R22 to R24, R360), lanes (R11), shift
amounts (R69), and how a result is laid out in its destination.
-/

namespace Sys2Proof.Machine

/-- A value cut to XLEN bits, kept in 64 with zeros above (rule R20). -/
def wrapX (x : Xlen) (v : XWord) : XWord :=
  match x with
  | .rv32 => (v.setWidth 32).setWidth 64
  | .rv64 => v

/-- `XLEN` of the machine. -/
def State.xlen (s : State) : Nat := s.cfg.xlen.bits

/-- `pc`, XLEN bits (rule R21). -/
def State.pcv (s : State) : XWord := wrapX s.cfg.xlen s.pc

/-- The instruction after this one: `pc <- trunc_XLEN(u(pc) + 4)` (rule R21). -/
def State.advance (s : State) : State := { s with pc := wrapX s.cfg.xlen (s.pc + 4#64) }

/-- `x[r]`: GPR r, XLEN bits with zeros above; `x[0]` reads 0 (rules R14, R20). -/
def State.x (s : State) (r : Reg) : XWord :=
  if r = 0#5 then 0#64 else wrapX s.cfg.xlen (s.regs[r.toNat]'r.isLt)

/-- `x[r] <- v`, with no effect for `x0` (rules R14, R20). -/
def State.setX (s : State) (r : Reg) (v : XWord) : State :=
  if r = 0#5 then s else { s with regs := s.regs.set r.toNat (wrapX s.cfg.xlen v) r.isLt }

/-- `u(x[r])`. -/
def State.ux (s : State) (r : Reg) : Int := uval (s.x r)

/-- The XLEN-bit signed value of a register's contents. -/
def signedX (x : Xlen) (v : XWord) : Int :=
  match x with
  | .rv32 => sval (v.setWidth 32)
  | .rv64 => sval v

/-- `s(x[r])`. -/
def State.sx (s : State) (r : Reg) : Int := signedX s.cfg.xlen (s.x r)

/-- The lower-numbered register of the pair a field names (rule R22). -/
def pairLow (f : Reg) : Reg := f &&& 0b11110#5

/-- The higher-numbered register of the pair a field names (rule R22). -/
def pairHigh (f : Reg) : Reg := f ||| 0b00001#5

/-- `pair(f)`: the 64-bit value of a register pair; the pair of `x0` reads 0 and `x1` is not read
(rules R22, R23). -/
def State.pair (s : State) (f : Reg) : XWord :=
  if pairLow f = 0#5 then 0#64
  else (s.x (pairHigh f)).setWidth 32 ++ (s.x (pairLow f)).setWidth 32

/-- `pair(f) <- v`; a write to the pair of `x0` changes nothing, `x1` included (rules R22, R23). -/
def State.setPair (s : State) (f : Reg) (v : XWord) : State :=
  if pairLow f = 0#5 then s
  else (s.setX (pairLow f) ((v.extractLsb' 0 32).setWidth 64)).setX (pairHigh f)
    ((v.extractLsb' 32 32).setWidth 64)

/-- `op64(f)`: a 64-bit operand, a pair on RV32 and one GPR on RV64 (rule R360). -/
def State.x64 (s : State) (f : Reg) : XWord :=
  match s.cfg.xlen with
  | .rv32 => s.pair f
  | .rv64 => s.x f

/-- `op64(f) <- v` (rule R360). -/
def State.setX64 (s : State) (f : Reg) (v : XWord) : State :=
  match s.cfg.xlen with
  | .rv32 => s.setPair f v
  | .rv64 => s.setX f v

/-- Lane j of width w: `v.B[j]`, `v.H[j]`, `v.W[j]` for w = 8, 16, 32 (rule R11). -/
def lane (w : Nat) (v : XWord) (j : Nat) : BitVec w := v.extractLsb' (w * j) w

/-- `u` of a lane of `x[r]`. -/
def State.ul (s : State) (w : Nat) (r : Reg) (j : Nat) : Int := uval (lane w (s.x r) j)

/-- `s` of a lane of `x[r]`. -/
def State.sl (s : State) (w : Nat) (r : Reg) (j : Nat) : Int := sval (lane w (s.x r) j)

/-- The number of lanes of width w in a GPR (rule R11). -/
def State.lanes (s : State) (w : Nat) : Nat := s.xlen / w

/-- The value whose lane j is `f j` for j below n, with zeros above (rule R11). -/
def packLanes (w : Nat) : Nat → (Nat → BitVec w) → XWord
  | 0, _ => 0#64
  | n + 1, f => packLanes w n f ||| ((f n).setWidth 64 <<< (w * n))

/-- Some lane below n was clipped (rule R15). -/
def anyClip : Nat → (Nat → Clipped) → Bool
  | 0, _ => false
  | n + 1, f => anyClip n f || (f n).clip

/-- The unsigned value of the low k bits of `x[r]`: a shift amount or a bit position (rule R69). -/
def State.low (s : State) (k : Nat) (r : Reg) : Nat := ((s.x r).setWidth k).toNat

/-- The signed value of the low k bits of `x[r]`: the amount of the KSLRA instructions (rule R69). -/
def State.slow (s : State) (k : Nat) (r : Reg) : Int := sval ((s.x r).setWidth k)

/-- The other lane of the pair of lanes that lane j belongs to (rule R130, crossed operands). -/
def partner (j : Nat) : Nat := if j % 2 = 1 then j - 1 else j + 1

/-- Addition in the top lane of each chunk, subtraction in the bottom lane (rule R130, CRAS and STAS). -/
def topAdds (j : Nat) (a b : Int) : Int := if j % 2 = 1 then a + b else a - b

/-- Subtraction in the top lane of each chunk, addition in the bottom lane (rule R130, CRSA and STSA). -/
def topSubtracts (j : Nat) (a b : Int) : Int := if j % 2 = 1 then a - b else a + b

/-- An all-ones lane when the condition holds, else zero (rule R220, the compare results). -/
def laneMask (w : Nat) (p : Bool) : Int := if p then 2 ^ w - 1 else 0

/-- The halfword `x[r].W[j].H[0]`, read as signed (rule R11: the bottom half of word j). -/
def State.bot (s : State) (r : Reg) (j : Nat) : Int := s.sl 16 r (2 * j)

/-- The halfword `x[r].W[j].H[1]`, read as signed (rule R11: the top half of word j). -/
def State.top (s : State) (r : Reg) (j : Nat) : Int := s.sl 16 r (2 * j + 1)

/-- `f 0 + ... + f (n - 1)`. -/
def sumOver : Nat → (Nat → Int) → Int
  | 0, _ => 0
  | n + 1, f => sumOver n f + f n

/-- The sum over the XLEN/32 words of a GPR. -/
def State.wordSum (s : State) (f : Nat → Int) : Int := sumOver (s.lanes 32) f

/-- The sum over the XLEN/8 bytes of two GPRs of the absolute differences, each 0 to 255 (rules R345, R346). -/
def State.byteDiffs (s : State) (r1 r2 : Reg) : Int :=
  sumOver (s.lanes 8) fun i => iabs (s.ul 8 r1 i - s.ul 8 r2 i)

/-- The shift amount or bit position in the low 5 bits of `x[r]` on RV32 and the low 6 on RV64 (rules R436, R437). -/
def State.amountX (s : State) (r : Reg) : Nat :=
  match s.cfg.xlen with
  | .rv32 => s.low 5 r
  | .rv64 => s.low 6 r

/-- The byte that SUNPKD8pq and ZUNPKD8pq put into halfword j: byte p of the word for its top half, byte q for its
bottom half (rule R234). -/
def unpackByte (p q j : Nat) : Nat := 4 * (j / 2) + if j % 2 = 1 then p else q

/-- Bits msb to 0 of a value in reverse order, with zeros above (rule R437). -/
def bitReverse (msb : Nat) (v : XWord) : XWord := v.reverse >>> (63 - msb)

/-- A value with its byte `pos` replaced (rule R440). -/
def insertByte (pos : Nat) (byte : BitVec 8) (v : XWord) : XWord :=
  packLanes 8 8 fun j => if j = pos then byte else lane 8 v j

/-- The low word of `{hi, lo}` rotated right by 0 to 63 (rules R103, R106). -/
def funnel (hi lo : BitVec 32) (amount : Nat) : BitVec 32 :=
  if 32 ≤ amount then (lo ++ hi).extractLsb' (amount - 32) 32 else (hi ++ lo).extractLsb' amount 32

/-- The 32-bit field of a 64-bit operand that starts at bit `lsb` (rules R441, R442). -/
def wordAt (lsb : Nat) (v : XWord) : XWord := (v.extractLsb' lsb 32).signExtend 64

end Sys2Proof.Machine
end

