-- ==== Sys2Proof/Machine/Ops.lean ====
section
/-!
DEFINITION. The named operations the meanings share: memory (20_memory.md), exceptions (60_exceptions.md R550, R552),
and how an instruction completes with its result (R20, R21, R26).
-/

namespace Sys2Proof.Machine

/-- What one instruction does. -/
abbrev Result := Host.Outcome State Fault Refusal

/-- The byte listed at an address; none where nothing was loaded or written (rules R41, R580). -/
def Memory.get : List Host.Cell → Nat → Option Byte
  | [], _ => none
  | (a, b) :: rest, k => if a = k then some b else Memory.get rest k

/-- Store one byte, keeping the addresses strictly rising (rule R41). -/
def Memory.set : List Host.Cell → Nat → Byte → List Host.Cell
  | [], k, v => [(k, v)]
  | (a, b) :: rest, k, v =>
    if k < a then (k, v) :: (a, b) :: rest
    else if k = a then (k, v) :: rest
    else (a, b) :: Memory.set rest k v

/-- Every listed address is above `k`, and the addresses rise strictly. -/
def Memory.sortedFrom : Nat → List Host.Cell → Bool
  | _, [] => true
  | k, (a, _) :: rest => decide (k < a) && Memory.sortedFrom a rest

/-- The canonical form of memory: the addresses rise strictly, so equal memories are equal lists. -/
def Memory.wf : List Host.Cell → Bool
  | [] => true
  | (a, _) :: rest => Memory.sortedFrom a rest

/-- The little-endian value of the n bytes at an address (rule R41); none if one of them has no value. -/
def Memory.read (m : List Host.Cell) (addr : Nat) : Nat → Option Nat
  | 0 => some 0
  | n + 1 =>
    match Memory.get m addr, Memory.read m (addr + 1) n with
    | some b, some rest => some (b.toNat + 256 * rest)
    | _, _ => none

/-- Store the n low bytes of a value, the lowest first (rule R41). -/
def Memory.write (m : List Host.Cell) (addr : Nat) : Nat → Nat → List Host.Cell
  | 0, _ => m
  | n + 1, v => Memory.write (Memory.set m addr (BitVec.ofNat 8 v)) (addr + 1) n (v / 256)

/-- The byte of memory at an address. -/
def State.byte (s : State) (addr : Nat) : Option Byte := Memory.get s.mem addr

/-- All n bytes from an address on lie in the memory region (rule R46). -/
def State.inRegion (s : State) (addr n : Nat) : Bool :=
  decide (s.cfg.memBase ≤ addr ∧ addr + n ≤ s.cfg.memBase + s.cfg.memSize)

/-- An address that is a multiple of n (rule R44). -/
def aligned (addr : XWord) (n : Nat) : Bool := addr.toNat % n == 0

/-- `trunc_XLEN(u(x[rs1]) + s(imm))`, the effective address of a load or store (rules R51 to R54). -/
def State.effAddr (s : State) (rs1 : Reg) (imm : BitVec 12) : XWord :=
  wrapX s.cfg.xlen (s.x rs1 + imm.signExtend 64)

/-- `raise <Exception>(info)` (rule R550): the instruction is abandoned with nothing written, and the step's outcome
is the fault record. The spec describes no trap entry (rule R560). -/
def raise (record : Fault) : Result := .fault record

/-- The cause code, the pc and the info value of the fault record (rule R557); none for a byte that has no value,
which is no exception of the hart. -/
def Fault.record : Fault → Option (Nat × XWord × XWord)
  | .instructionAddressMisaligned pc target => some (0, pc, target)
  | .instructionAccessFault pc => some (1, pc, pc)
  | .illegalInstruction pc word => some (2, pc, word.setWidth 64)
  | .loadAddressMisaligned pc addr => some (4, pc, addr)
  | .loadAccessFault pc addr => some (5, pc, addr)
  | .storeAddressMisaligned pc addr => some (6, pc, addr)
  | .storeAccessFault pc addr => some (7, pc, addr)
  | .unwrittenMemory _ _ => none

/-- The instruction word at the pc; bytes without a value count as zero (log entry 18). -/
def State.currentWord (s : State) : Word :=
  BitVec.ofNat 32 ((Memory.read s.mem s.pcv.toNat 4).getD 0)

/-- `IllegalInstruction(I)` for the word at the pc (rules R550, R551, R552). -/
def State.illegal (s : State) : Result := raise (.illegalInstruction s.pcv s.currentWord)

/-- Rule R552: an instruction that accesses `vxsat` is illegal while VS is Off; otherwise it goes on. -/
def State.vxsatAccess (s : State) (r : Result) : Result := if s.vxsatOff then s.illegal else r

/-- `v = MemRead(addr, n)` and what is done with v; misaligned first, then the access fault (rules R41, R44, R46,
R559), then a byte with no value (R580). -/
def State.load (s : State) (addr : XWord) (n : Nat) (andThen : Nat → Result) : Result :=
  if !aligned addr n then raise (.loadAddressMisaligned s.pcv addr)
  else if !s.inRegion addr.toNat n then raise (.loadAccessFault s.pcv addr)
  else
    match Memory.read s.mem addr.toNat n with
    | some v => andThen v
    | none => raise (.unwrittenMemory s.pcv addr)

/-- `MemWrite(addr, n, v)`, and the instruction completes; misaligned first, then the access fault (rules R41, R44,
R46, R559). -/
def State.store (s : State) (addr : XWord) (n v : Nat) : Result :=
  if !aligned addr n then raise (.storeAddressMisaligned s.pcv addr)
  else if !s.inRegion addr.toNat n then raise (.storeAccessFault s.pcv addr)
  else .next { s with mem := Memory.write s.mem addr.toNat n v }.advance

/-- `pc <- target`; a target that is not a multiple of 4 raises InstructionAddressMisaligned (rules R44, R83). -/
def State.jump (s : State) (target : XWord) : Result :=
  if aligned target 4 then .next { s with pc := target }
  else raise (.instructionAddressMisaligned s.pcv target)

/-- The value read from the CSR `vxsat`: `zext_XLEN(OV)` (rule R26). -/
def State.vxsat (s : State) : XWord := if s.ov then 1#64 else 0#64

/-- `x[rd] <- v`, and the instruction completes. -/
def State.writeBits (s : State) (rd : Reg) (v : XWord) : Result := .next (s.setX rd v).advance

/-- `x[rd] <- trunc_XLEN(k)`. -/
def State.writeX (s : State) (rd : Reg) (k : Int) : Result := s.writeBits rd (trunc 64 k)

/-- `x[rd] <- sext_XLEN(trunc_32(k))`. -/
def State.writeW (s : State) (rd : Reg) (k : Int) : Result := s.writeBits rd ((trunc 32 k).signExtend 64)

/-- `op64(rd) <- trunc_64(k)`. -/
def State.write64 (s : State) (rd : Reg) (k : Int) : Result := .next (s.setX64 rd (trunc 64 k)).advance

/-- The XLEN/w lanes `trunc_w(f j)` as one value. -/
def State.lanesOf (s : State) (w : Nat) (f : Nat → Int) : XWord :=
  packLanes w (s.lanes w) fun j => trunc w (f j)

/-- Lane j of `x[rd]` `<- trunc_w(f j)`, for the XLEN/w lanes. -/
def State.writeLanes (s : State) (rd : Reg) (w : Nat) (f : Nat → Int) : Result :=
  s.writeBits rd (s.lanesOf w f)

/-- The 64/w lanes `trunc_w(f j)` as `op64(rd)` (rules R270 to R279). -/
def State.write64Lanes (s : State) (rd : Reg) (w : Nat) (f : Nat → Int) : Result :=
  .next (s.setX64 rd (packLanes w (64 / w) fun j => trunc w (f j))).advance

/-- An instruction that can set `OV` completes in t with or without a clip (rules R26, R552, R553). -/
def State.clipped (s t : State) (clip : Bool) : Result :=
  s.vxsatAccess (.next (t.noteClip clip).advance)

/-- `x[rd] <- sext_XLEN(trunc_32(r))` for a result that may be clipped. -/
def State.clipW (s : State) (rd : Reg) (r : Clipped) : Result :=
  s.clipped (s.setX rd ((trunc 32 r.val).signExtend 64)) r.clip

/-- `x[rd] <- sext_XLEN(trunc_16(r))` for a result that may be clipped (rule R400). -/
def State.clipH (s : State) (rd : Reg) (r : Clipped) : Result :=
  s.clipped (s.setX rd ((trunc 16 r.val).signExtend 64)) r.clip

/-- `x[rd] <- trunc_XLEN(r)` for a result that may be clipped. -/
def State.clipX (s : State) (rd : Reg) (r : Clipped) : Result :=
  s.clipped (s.setX rd (trunc 64 r.val)) r.clip

/-- `op64(rd) <- trunc_64(r)` for a result that may be clipped. -/
def State.clip64 (s : State) (rd : Reg) (r : Clipped) : Result :=
  s.clipped (s.setX64 rd (trunc 64 r.val)) r.clip

/-- Lane j of `x[rd]` `<- trunc_w(f j)`, for the XLEN/w lanes; `OV` is set when any lane clips (rule R15). -/
def State.clipLanes (s : State) (rd : Reg) (w : Nat) (f : Nat → Clipped) : Result :=
  s.clipped (s.setX rd (s.lanesOf w fun j => (f j).val)) (anyClip (s.lanes w) f)

/-- A shift right for a negative amount, by at most w - 1, or a saturating shift left (rules R195, R209). -/
def shiftLR (w : Nat) (shiftRight : Int → Nat → Int) (k n : Int) : Clipped :=
  if n < 0 then exact (shiftRight k (Nat.min (-n).toNat (w - 1))) else satq (w - 1) (shl k n.toNat)

/-- Two halves as one lane twice as wide: `{hi, lo}` (rule R14). -/
def join (w : Nat) (hi lo : Int) : Int := hi * 2 ^ w + lo

end Sys2Proof.Machine
end

