-- ==== Sys2Proof/Machine/AddSub16.lean ====
section
/-!
DEFINITION. The meanings of one family: The 16-bit SIMD additions and subtractions (41_simd_addsub16.md).
-/

namespace Sys2Proof.Machine

/-- ADD16, SIMD 16-bit Addition (rule R132). -/
def execAdd16 (rd rs1 rs2 : Reg) (s : State) : Result :=
  s.writeLanes rd 16 fun j => s.ul 16 rs1 j + s.ul 16 rs2 j

/-- RADD16, SIMD 16-bit Signed Halving Addition (rule R133). -/
def execRadd16 (rd rs1 rs2 : Reg) (s : State) : Result :=
  s.writeLanes rd 16 fun j => halve (s.sl 16 rs1 j + s.sl 16 rs2 j)

/-- URADD16, SIMD 16-bit Unsigned Halving Addition (rule R134). -/
def execUradd16 (rd rs1 rs2 : Reg) (s : State) : Result :=
  s.writeLanes rd 16 fun j => halve (s.ul 16 rs1 j + s.ul 16 rs2 j)

/-- KADD16, SIMD 16-bit Signed Saturating Addition (rule R135). -/
def execKadd16 (rd rs1 rs2 : Reg) (s : State) : Result :=
  s.clipLanes rd 16 fun j => satq 15 (s.sl 16 rs1 j + s.sl 16 rs2 j)

/-- UKADD16, SIMD 16-bit Unsigned Saturating Addition (rule R136). -/
def execUkadd16 (rd rs1 rs2 : Reg) (s : State) : Result :=
  s.clipLanes rd 16 fun j => satu 16 (s.ul 16 rs1 j + s.ul 16 rs2 j)

/-- SUB16, SIMD 16-bit Subtraction (rule R137). -/
def execSub16 (rd rs1 rs2 : Reg) (s : State) : Result :=
  s.writeLanes rd 16 fun j => s.ul 16 rs1 j - s.ul 16 rs2 j

/-- RSUB16, SIMD 16-bit Signed Halving Subtraction (rule R138). -/
def execRsub16 (rd rs1 rs2 : Reg) (s : State) : Result :=
  s.writeLanes rd 16 fun j => halve (s.sl 16 rs1 j - s.sl 16 rs2 j)

/-- URSUB16, SIMD 16-bit Unsigned Halving Subtraction (rule R139). -/
def execUrsub16 (rd rs1 rs2 : Reg) (s : State) : Result :=
  s.writeLanes rd 16 fun j => halve (s.ul 16 rs1 j - s.ul 16 rs2 j)

/-- KSUB16, SIMD 16-bit Signed Saturating Subtraction (rule R140). -/
def execKsub16 (rd rs1 rs2 : Reg) (s : State) : Result :=
  s.clipLanes rd 16 fun j => satq 15 (s.sl 16 rs1 j - s.sl 16 rs2 j)

/-- UKSUB16, SIMD 16-bit Unsigned Saturating Subtraction (rule R141). -/
def execUksub16 (rd rs1 rs2 : Reg) (s : State) : Result :=
  s.clipLanes rd 16 fun j => satu 16 (s.ul 16 rs1 j - s.ul 16 rs2 j)

/-- CRAS16, SIMD 16-bit Cross Addition & Subtraction (rule R142). -/
def execCras16 (rd rs1 rs2 : Reg) (s : State) : Result :=
  s.writeLanes rd 16 fun j => topAdds j (s.ul 16 rs1 j) (s.ul 16 rs2 (partner j))

/-- RCRAS16, SIMD 16-bit Signed Halving Cross Addition & Subtraction (rule R143). -/
def execRcras16 (rd rs1 rs2 : Reg) (s : State) : Result :=
  s.writeLanes rd 16 fun j => halve (topAdds j (s.sl 16 rs1 j) (s.sl 16 rs2 (partner j)))

/-- URCRAS16, SIMD 16-bit Unsigned Halving Cross Addition & Subtraction (rule R144). -/
def execUrcras16 (rd rs1 rs2 : Reg) (s : State) : Result :=
  s.writeLanes rd 16 fun j => halve (topAdds j (s.ul 16 rs1 j) (s.ul 16 rs2 (partner j)))

/-- KCRAS16, SIMD 16-bit Signed Saturating Cross Addition & Subtraction (rule R145). -/
def execKcras16 (rd rs1 rs2 : Reg) (s : State) : Result :=
  s.clipLanes rd 16 fun j => satq 15 (topAdds j (s.sl 16 rs1 j) (s.sl 16 rs2 (partner j)))

/-- UKCRAS16, SIMD 16-bit Unsigned Saturating Cross Addition & Subtraction (rule R146). -/
def execUkcras16 (rd rs1 rs2 : Reg) (s : State) : Result :=
  s.clipLanes rd 16 fun j => satu 16 (topAdds j (s.ul 16 rs1 j) (s.ul 16 rs2 (partner j)))

/-- CRSA16, SIMD 16-bit Cross Subtraction & Addition (rule R147). -/
def execCrsa16 (rd rs1 rs2 : Reg) (s : State) : Result :=
  s.writeLanes rd 16 fun j => topSubtracts j (s.ul 16 rs1 j) (s.ul 16 rs2 (partner j))

/-- RCRSA16, SIMD 16-bit Signed Halving Cross Subtraction & Addition (rule R148). -/
def execRcrsa16 (rd rs1 rs2 : Reg) (s : State) : Result :=
  s.writeLanes rd 16 fun j => halve (topSubtracts j (s.sl 16 rs1 j) (s.sl 16 rs2 (partner j)))

/-- URCRSA16, SIMD 16-bit Unsigned Halving Cross Subtraction & Addition (rule R149). -/
def execUrcrsa16 (rd rs1 rs2 : Reg) (s : State) : Result :=
  s.writeLanes rd 16 fun j => halve (topSubtracts j (s.ul 16 rs1 j) (s.ul 16 rs2 (partner j)))

/-- KCRSA16, SIMD 16-bit Signed Saturating Cross Subtraction & Addition (rule R150). -/
def execKcrsa16 (rd rs1 rs2 : Reg) (s : State) : Result :=
  s.clipLanes rd 16 fun j => satq 15 (topSubtracts j (s.sl 16 rs1 j) (s.sl 16 rs2 (partner j)))

/-- UKCRSA16, SIMD 16-bit Unsigned Saturating Cross Subtraction & Addition (rule R151). -/
def execUkcrsa16 (rd rs1 rs2 : Reg) (s : State) : Result :=
  s.clipLanes rd 16 fun j => satu 16 (topSubtracts j (s.ul 16 rs1 j) (s.ul 16 rs2 (partner j)))

/-- STAS16, SIMD 16-bit Straight Addition & Subtraction (rule R152). -/
def execStas16 (rd rs1 rs2 : Reg) (s : State) : Result :=
  s.writeLanes rd 16 fun j => topAdds j (s.ul 16 rs1 j) (s.ul 16 rs2 j)

/-- RSTAS16, SIMD 16-bit Signed Halving Straight Addition & Subtraction (rule R153). -/
def execRstas16 (rd rs1 rs2 : Reg) (s : State) : Result :=
  s.writeLanes rd 16 fun j => halve (topAdds j (s.sl 16 rs1 j) (s.sl 16 rs2 j))

/-- URSTAS16, SIMD 16-bit Unsigned Halving Straight Addition & Subtraction (rule R154). -/
def execUrstas16 (rd rs1 rs2 : Reg) (s : State) : Result :=
  s.writeLanes rd 16 fun j => halve (topAdds j (s.ul 16 rs1 j) (s.ul 16 rs2 j))

/-- KSTAS16, SIMD 16-bit Signed Saturating Straight Addition & Subtraction (rule R155). -/
def execKstas16 (rd rs1 rs2 : Reg) (s : State) : Result :=
  s.clipLanes rd 16 fun j => satq 15 (topAdds j (s.sl 16 rs1 j) (s.sl 16 rs2 j))

/-- UKSTAS16, SIMD 16-bit Unsigned Saturating Straight Addition & Subtraction (rule R156). -/
def execUkstas16 (rd rs1 rs2 : Reg) (s : State) : Result :=
  s.clipLanes rd 16 fun j => satu 16 (topAdds j (s.ul 16 rs1 j) (s.ul 16 rs2 j))

/-- STSA16, SIMD 16-bit Straight Subtraction & Addition (rule R157). -/
def execStsa16 (rd rs1 rs2 : Reg) (s : State) : Result :=
  s.writeLanes rd 16 fun j => topSubtracts j (s.ul 16 rs1 j) (s.ul 16 rs2 j)

/-- RSTSA16, SIMD 16-bit Signed Halving Straight Subtraction & Addition (rule R158). -/
def execRstsa16 (rd rs1 rs2 : Reg) (s : State) : Result :=
  s.writeLanes rd 16 fun j => halve (topSubtracts j (s.sl 16 rs1 j) (s.sl 16 rs2 j))

/-- URSTSA16, SIMD 16-bit Unsigned Halving Straight Subtraction & Addition (rule R159). -/
def execUrstsa16 (rd rs1 rs2 : Reg) (s : State) : Result :=
  s.writeLanes rd 16 fun j => halve (topSubtracts j (s.ul 16 rs1 j) (s.ul 16 rs2 j))

/-- KSTSA16, SIMD 16-bit Signed Saturating Straight Subtraction & Addition (rule R160). -/
def execKstsa16 (rd rs1 rs2 : Reg) (s : State) : Result :=
  s.clipLanes rd 16 fun j => satq 15 (topSubtracts j (s.sl 16 rs1 j) (s.sl 16 rs2 j))

/-- UKSTSA16, SIMD 16-bit Unsigned Saturating Straight Subtraction & Addition (rule R161). -/
def execUkstsa16 (rd rs1 rs2 : Reg) (s : State) : Result :=
  s.clipLanes rd 16 fun j => satu 16 (topSubtracts j (s.ul 16 rs1 j) (s.ul 16 rs2 j))

end Sys2Proof.Machine
end

