-- ==== Sys2Proof/Machine/AddSub8Shift.lean ====
section
/-!
DEFINITION. The meanings of one family: The 8-bit SIMD additions and subtractions and the 16-bit and 8-bit shifts (42_simd_addsub8_shift.md).
-/

namespace Sys2Proof.Machine

/-- ADD8, SIMD 8-bit Addition (rule R171). -/
def execAdd8 (rd rs1 rs2 : Reg) (s : State) : Result :=
  s.writeLanes rd 8 fun j => s.ul 8 rs1 j + s.ul 8 rs2 j

/-- RADD8, SIMD 8-bit Signed Halving Addition (rule R172). -/
def execRadd8 (rd rs1 rs2 : Reg) (s : State) : Result :=
  s.writeLanes rd 8 fun j => halve (s.sl 8 rs1 j + s.sl 8 rs2 j)

/-- URADD8, SIMD 8-bit Unsigned Halving Addition (rule R173). -/
def execUradd8 (rd rs1 rs2 : Reg) (s : State) : Result :=
  s.writeLanes rd 8 fun j => halve (s.ul 8 rs1 j + s.ul 8 rs2 j)

/-- KADD8, SIMD 8-bit Signed Saturating Addition (rule R174). -/
def execKadd8 (rd rs1 rs2 : Reg) (s : State) : Result :=
  s.clipLanes rd 8 fun j => satq 7 (s.sl 8 rs1 j + s.sl 8 rs2 j)

/-- UKADD8, SIMD 8-bit Unsigned Saturating Addition (rule R175). -/
def execUkadd8 (rd rs1 rs2 : Reg) (s : State) : Result :=
  s.clipLanes rd 8 fun j => satu 8 (s.ul 8 rs1 j + s.ul 8 rs2 j)

/-- SUB8, SIMD 8-bit Subtraction (rule R176). -/
def execSub8 (rd rs1 rs2 : Reg) (s : State) : Result :=
  s.writeLanes rd 8 fun j => s.ul 8 rs1 j - s.ul 8 rs2 j

/-- RSUB8, SIMD 8-bit Signed Halving Subtraction (rule R177). -/
def execRsub8 (rd rs1 rs2 : Reg) (s : State) : Result :=
  s.writeLanes rd 8 fun j => halve (s.sl 8 rs1 j - s.sl 8 rs2 j)

/-- URSUB8, SIMD 8-bit Unsigned Halving Subtraction (rule R178). -/
def execUrsub8 (rd rs1 rs2 : Reg) (s : State) : Result :=
  s.writeLanes rd 8 fun j => halve (s.ul 8 rs1 j - s.ul 8 rs2 j)

/-- KSUB8, SIMD 8-bit Signed Saturating Subtraction (rule R179). -/
def execKsub8 (rd rs1 rs2 : Reg) (s : State) : Result :=
  s.clipLanes rd 8 fun j => satq 7 (s.sl 8 rs1 j - s.sl 8 rs2 j)

/-- UKSUB8, SIMD 8-bit Unsigned Saturating Subtraction (rule R180). -/
def execUksub8 (rd rs1 rs2 : Reg) (s : State) : Result :=
  s.clipLanes rd 8 fun j => satu 8 (s.ul 8 rs1 j - s.ul 8 rs2 j)

/-- SRA16, SIMD 16-bit Shift Right Arithmetic (rule R183). -/
def execSra16 (rd rs1 rs2 : Reg) (s : State) : Result :=
  s.writeLanes rd 16 fun j => asr (s.sl 16 rs1 j) (s.low 4 rs2)

/-- SRAI16, SIMD 16-bit Shift Right Arithmetic Immediate (rule R184). -/
def execSrai16 (rd rs1 : Reg) (imm : BitVec 4) (s : State) : Result :=
  s.writeLanes rd 16 fun j => asr (s.sl 16 rs1 j) imm.toNat

/-- SRA16.u, SIMD 16-bit Rounding Shift Right Arithmetic (rule R185). -/
def execSra16U (rd rs1 rs2 : Reg) (s : State) : Result :=
  s.writeLanes rd 16 fun j => rnd (s.sl 16 rs1 j) (s.low 4 rs2)

/-- SRAI16.u, SIMD 16-bit Rounding Shift Right Arithmetic Immediate (rule R186). -/
def execSrai16U (rd rs1 : Reg) (imm : BitVec 4) (s : State) : Result :=
  s.writeLanes rd 16 fun j => rnd (s.sl 16 rs1 j) imm.toNat

/-- SRL16, SIMD 16-bit Shift Right Logical (rule R187). -/
def execSrl16 (rd rs1 rs2 : Reg) (s : State) : Result :=
  s.writeLanes rd 16 fun j => asr (s.ul 16 rs1 j) (s.low 4 rs2)

/-- SRLI16, SIMD 16-bit Shift Right Logical Immediate (rule R188). -/
def execSrli16 (rd rs1 : Reg) (imm : BitVec 4) (s : State) : Result :=
  s.writeLanes rd 16 fun j => asr (s.ul 16 rs1 j) imm.toNat

/-- SRL16.u, SIMD 16-bit Rounding Shift Right Logical (rule R189). -/
def execSrl16U (rd rs1 rs2 : Reg) (s : State) : Result :=
  s.writeLanes rd 16 fun j => rnd (s.ul 16 rs1 j) (s.low 4 rs2)

/-- SRLI16.u, SIMD 16-bit Rounding Shift Right Logical Immediate (rule R190). -/
def execSrli16U (rd rs1 : Reg) (imm : BitVec 4) (s : State) : Result :=
  s.writeLanes rd 16 fun j => rnd (s.ul 16 rs1 j) imm.toNat

/-- SLL16, SIMD 16-bit Shift Left Logical (rule R191). -/
def execSll16 (rd rs1 rs2 : Reg) (s : State) : Result :=
  s.writeLanes rd 16 fun j => shl (s.ul 16 rs1 j) (s.low 4 rs2)

/-- SLLI16, SIMD 16-bit Shift Left Logical Immediate (rule R192). -/
def execSlli16 (rd rs1 : Reg) (imm : BitVec 4) (s : State) : Result :=
  s.writeLanes rd 16 fun j => shl (s.ul 16 rs1 j) imm.toNat

/-- KSLL16, SIMD 16-bit Saturating Shift Left Logical (rule R193). -/
def execKsll16 (rd rs1 rs2 : Reg) (s : State) : Result :=
  s.clipLanes rd 16 fun j => satq 15 (shl (s.sl 16 rs1 j) (s.low 4 rs2))

/-- KSLLI16, SIMD 16-bit Saturating Shift Left Logical Immediate (rule R194). -/
def execKslli16 (rd rs1 : Reg) (imm : BitVec 4) (s : State) : Result :=
  s.clipLanes rd 16 fun j => satq 15 (shl (s.sl 16 rs1 j) imm.toNat)

/-- KSLRA16, SIMD 16-bit Shift Left Logical with Saturation or Shift Right Arithmetic (rule R195). -/
def execKslra16 (rd rs1 rs2 : Reg) (s : State) : Result :=
  s.clipLanes rd 16 fun j => shiftLR 16 asr (s.sl 16 rs1 j) (s.slow 5 rs2)

/-- KSLRA16.u, SIMD 16-bit Shift Left Logical with Saturation or Rounding Shift Right Arithmetic (rule R196). -/
def execKslra16U (rd rs1 rs2 : Reg) (s : State) : Result :=
  s.clipLanes rd 16 fun j => shiftLR 16 rnd (s.sl 16 rs1 j) (s.slow 5 rs2)

/-- SRA8, SIMD 8-bit Shift Right Arithmetic (rule R197). -/
def execSra8 (rd rs1 rs2 : Reg) (s : State) : Result :=
  s.writeLanes rd 8 fun j => asr (s.sl 8 rs1 j) (s.low 3 rs2)

/-- SRAI8, SIMD 8-bit Shift Right Arithmetic Immediate (rule R198). -/
def execSrai8 (rd rs1 : Reg) (imm : BitVec 3) (s : State) : Result :=
  s.writeLanes rd 8 fun j => asr (s.sl 8 rs1 j) imm.toNat

/-- SRA8.u, SIMD 8-bit Rounding Shift Right Arithmetic (rule R199). -/
def execSra8U (rd rs1 rs2 : Reg) (s : State) : Result :=
  s.writeLanes rd 8 fun j => rnd (s.sl 8 rs1 j) (s.low 3 rs2)

/-- SRAI8.u, SIMD 8-bit Rounding Shift Right Arithmetic Immediate (rule R200). -/
def execSrai8U (rd rs1 : Reg) (imm : BitVec 3) (s : State) : Result :=
  s.writeLanes rd 8 fun j => rnd (s.sl 8 rs1 j) imm.toNat

/-- SRL8, SIMD 8-bit Shift Right Logical (rule R201). -/
def execSrl8 (rd rs1 rs2 : Reg) (s : State) : Result :=
  s.writeLanes rd 8 fun j => asr (s.ul 8 rs1 j) (s.low 3 rs2)

/-- SRLI8, SIMD 8-bit Shift Right Logical Immediate (rule R202). -/
def execSrli8 (rd rs1 : Reg) (imm : BitVec 3) (s : State) : Result :=
  s.writeLanes rd 8 fun j => asr (s.ul 8 rs1 j) imm.toNat

/-- SRL8.u, SIMD 8-bit Rounding Shift Right Logical (rule R203). -/
def execSrl8U (rd rs1 rs2 : Reg) (s : State) : Result :=
  s.writeLanes rd 8 fun j => rnd (s.ul 8 rs1 j) (s.low 3 rs2)

/-- SRLI8.u, SIMD 8-bit Rounding Shift Right Logical Immediate (rule R204). -/
def execSrli8U (rd rs1 : Reg) (imm : BitVec 3) (s : State) : Result :=
  s.writeLanes rd 8 fun j => rnd (s.ul 8 rs1 j) imm.toNat

/-- SLL8, SIMD 8-bit Shift Left Logical (rule R205). -/
def execSll8 (rd rs1 rs2 : Reg) (s : State) : Result :=
  s.writeLanes rd 8 fun j => shl (s.ul 8 rs1 j) (s.low 3 rs2)

/-- SLLI8, SIMD 8-bit Shift Left Logical Immediate (rule R206). -/
def execSlli8 (rd rs1 : Reg) (imm : BitVec 3) (s : State) : Result :=
  s.writeLanes rd 8 fun j => shl (s.ul 8 rs1 j) imm.toNat

/-- KSLL8, SIMD 8-bit Saturating Shift Left Logical (rule R207). -/
def execKsll8 (rd rs1 rs2 : Reg) (s : State) : Result :=
  s.clipLanes rd 8 fun j => satq 7 (shl (s.sl 8 rs1 j) (s.low 3 rs2))

/-- KSLLI8, SIMD 8-bit Saturating Shift Left Logical Immediate (rule R208). -/
def execKslli8 (rd rs1 : Reg) (imm : BitVec 3) (s : State) : Result :=
  s.clipLanes rd 8 fun j => satq 7 (shl (s.sl 8 rs1 j) imm.toNat)

/-- KSLRA8, SIMD 8-bit Shift Left Logical with Saturation or Shift Right Arithmetic (rule R209). -/
def execKslra8 (rd rs1 rs2 : Reg) (s : State) : Result :=
  s.clipLanes rd 8 fun j => shiftLR 8 asr (s.sl 8 rs1 j) (s.slow 4 rs2)

/-- KSLRA8.u, SIMD 8-bit Shift Left Logical with Saturation or Rounding Shift Right Arithmetic (rule R210). -/
def execKslra8U (rd rs1 rs2 : Reg) (s : State) : Result :=
  s.clipLanes rd 8 fun j => shiftLR 8 rnd (s.sl 8 rs1 j) (s.slow 4 rs2)

end Sys2Proof.Machine
end

