-- ==== Sys2Proof/Machine/Base.lean ====
section
/-!
DEFINITION. The meanings of one family: The base instructions the test programs use (20_memory.md R51 to R54, 30_encoding.md R81 to R83).
-/

namespace Sys2Proof.Machine

/-- LW (rule R51). -/
def execLw (rd rs1 : Reg) (imm : BitVec 12) (s : State) : Result :=
  s.load (s.effAddr rs1 imm) 4 fun v => s.writeBits rd ((BitVec.ofNat 32 v).signExtend 64)

/-- SW (rule R52). -/
def execSw (rs2 rs1 : Reg) (imm : BitVec 12) (s : State) : Result :=
  s.store (s.effAddr rs1 imm) 4 ((s.x rs2).setWidth 32).toNat

/-- LD, RV64 only (rule R53). -/
def execLd (rd rs1 : Reg) (imm : BitVec 12) (s : State) : Result :=
  s.load (s.effAddr rs1 imm) 8 fun v => s.writeBits rd (BitVec.ofNat 64 v)

/-- SD, RV64 only (rule R54). -/
def execSd (rs2 rs1 : Reg) (imm : BitVec 12) (s : State) : Result :=
  s.store (s.effAddr rs1 imm) 8 (s.x rs2).toNat

/-- ADDI (rule R81). -/
def execAddi (rd rs1 : Reg) (imm : BitVec 12) (s : State) : Result :=
  s.writeX rd (s.sx rs1 + sval imm)

/-- LUI (rule R82). -/
def execLui (rd : Reg) (imm : BitVec 20) (s : State) : Result :=
  s.writeBits rd ((imm ++ 0#12).signExtend 64)

/-- BNE (rule R83). -/
def execBne (rs1 rs2 : Reg) (offset : BitVec 13) (s : State) : Result :=
  if s.x rs1 = s.x rs2 then .next s.advance else s.jump (wrapX s.cfg.xlen (s.pc + offset.signExtend 64))

end Sys2Proof.Machine
end

