-- ==== Sys2Proof/Machine/CmpMiscUnpack.lean ====
section
/-!
DEFINITION. The meanings of one family: Compares, minimum and maximum, clips, counts, swaps, unpacks (43_simd_cmp_misc_unpack.md).
-/

namespace Sys2Proof.Machine

/-- CMPEQ16, SIMD 16-bit Integer Compare Equal (rule R221). -/
def execCmpeq16 (rd rs1 rs2 : Reg) (s : State) : Result :=
  s.writeLanes rd 16 fun j => laneMask 16 (decide (s.ul 16 rs1 j = s.ul 16 rs2 j))

/-- SCMPLT16, SIMD 16-bit Signed Compare Less Than (rule R222). -/
def execScmplt16 (rd rs1 rs2 : Reg) (s : State) : Result :=
  s.writeLanes rd 16 fun j => laneMask 16 (decide (s.sl 16 rs1 j < s.sl 16 rs2 j))

/-- SCMPLE16, SIMD 16-bit Signed Compare Less Than & Equal (rule R223). -/
def execScmple16 (rd rs1 rs2 : Reg) (s : State) : Result :=
  s.writeLanes rd 16 fun j => laneMask 16 (decide (s.sl 16 rs1 j ≤ s.sl 16 rs2 j))

/-- UCMPLT16, SIMD 16-bit Unsigned Compare Less Than (rule R224). -/
def execUcmplt16 (rd rs1 rs2 : Reg) (s : State) : Result :=
  s.writeLanes rd 16 fun j => laneMask 16 (decide (s.ul 16 rs1 j < s.ul 16 rs2 j))

/-- UCMPLE16, SIMD 16-bit Unsigned Compare Less Than & Equal (rule R225). -/
def execUcmple16 (rd rs1 rs2 : Reg) (s : State) : Result :=
  s.writeLanes rd 16 fun j => laneMask 16 (decide (s.ul 16 rs1 j ≤ s.ul 16 rs2 j))

/-- CMPEQ8, SIMD 8-bit Integer Compare Equal (rule R226). -/
def execCmpeq8 (rd rs1 rs2 : Reg) (s : State) : Result :=
  s.writeLanes rd 8 fun j => laneMask 8 (decide (s.ul 8 rs1 j = s.ul 8 rs2 j))

/-- SCMPLT8, SIMD 8-bit Signed Compare Less Than (rule R227). -/
def execScmplt8 (rd rs1 rs2 : Reg) (s : State) : Result :=
  s.writeLanes rd 8 fun j => laneMask 8 (decide (s.sl 8 rs1 j < s.sl 8 rs2 j))

/-- SCMPLE8, SIMD 8-bit Signed Compare Less Than & Equal (rule R228). -/
def execScmple8 (rd rs1 rs2 : Reg) (s : State) : Result :=
  s.writeLanes rd 8 fun j => laneMask 8 (decide (s.sl 8 rs1 j ≤ s.sl 8 rs2 j))

/-- UCMPLT8, SIMD 8-bit Unsigned Compare Less Than (rule R229). -/
def execUcmplt8 (rd rs1 rs2 : Reg) (s : State) : Result :=
  s.writeLanes rd 8 fun j => laneMask 8 (decide (s.ul 8 rs1 j < s.ul 8 rs2 j))

/-- UCMPLE8, SIMD 8-bit Unsigned Compare Less Than & Equal (rule R230). -/
def execUcmple8 (rd rs1 rs2 : Reg) (s : State) : Result :=
  s.writeLanes rd 8 fun j => laneMask 8 (decide (s.ul 8 rs1 j ≤ s.ul 8 rs2 j))

/-- SMIN16, SIMD 16-bit Signed Minimum (rule R235). -/
def execSmin16 (rd rs1 rs2 : Reg) (s : State) : Result :=
  s.writeLanes rd 16 fun j =>
    if s.sl 16 rs1 j < s.sl 16 rs2 j then s.sl 16 rs1 j else s.sl 16 rs2 j

/-- UMIN16, SIMD 16-bit Unsigned Minimum (rule R236). -/
def execUmin16 (rd rs1 rs2 : Reg) (s : State) : Result :=
  s.writeLanes rd 16 fun j =>
    if s.ul 16 rs1 j < s.ul 16 rs2 j then s.ul 16 rs1 j else s.ul 16 rs2 j

/-- SMAX16, SIMD 16-bit Signed Maximum (rule R237). -/
def execSmax16 (rd rs1 rs2 : Reg) (s : State) : Result :=
  s.writeLanes rd 16 fun j =>
    if s.sl 16 rs1 j > s.sl 16 rs2 j then s.sl 16 rs1 j else s.sl 16 rs2 j

/-- UMAX16, SIMD 16-bit Unsigned Maximum (rule R238). -/
def execUmax16 (rd rs1 rs2 : Reg) (s : State) : Result :=
  s.writeLanes rd 16 fun j =>
    if s.ul 16 rs1 j > s.ul 16 rs2 j then s.ul 16 rs1 j else s.ul 16 rs2 j

/-- SCLIP16, SIMD 16-bit Signed Clip Value (rule R239). -/
def execSclip16 (rd rs1 : Reg) (imm : BitVec 4) (s : State) : Result :=
  s.clipLanes rd 16 fun j => satq imm.toNat (s.sl 16 rs1 j)

/-- UCLIP16, SIMD 16-bit Unsigned Clip Value (rule R240). -/
def execUclip16 (rd rs1 : Reg) (imm : BitVec 4) (s : State) : Result :=
  s.clipLanes rd 16 fun j => satu imm.toNat (s.sl 16 rs1 j)

/-- KABS16, SIMD 16-bit Saturating Absolute (rule R241). -/
def execKabs16 (rd rs1 : Reg) (s : State) : Result :=
  s.clipLanes rd 16 fun j => satq 15 (iabs (s.sl 16 rs1 j))

/-- CLRS16, SIMD 16-bit Count Leading Redundant Sign (rule R242). -/
def execClrs16 (rd rs1 : Reg) (s : State) : Result :=
  s.writeLanes rd 16 fun j => clrsOf (lane 16 (s.x rs1) j)

/-- CLZ16, SIMD 16-bit Count Leading Zero (rule R243). -/
def execClz16 (rd rs1 : Reg) (s : State) : Result :=
  s.writeLanes rd 16 fun j => clzOf (lane 16 (s.x rs1) j)

/-- SWAP16, Swap Halfword within Word (rule R244). -/
def execSwap16 (rd rs1 : Reg) (s : State) : Result :=
  s.writeLanes rd 16 fun j => s.ul 16 rs1 (partner j)

/-- SMIN8, SIMD 8-bit Signed Minimum (rule R250). -/
def execSmin8 (rd rs1 rs2 : Reg) (s : State) : Result :=
  s.writeLanes rd 8 fun j =>
    if s.sl 8 rs1 j < s.sl 8 rs2 j then s.sl 8 rs1 j else s.sl 8 rs2 j

/-- UMIN8, SIMD 8-bit Unsigned Minimum (rule R251). -/
def execUmin8 (rd rs1 rs2 : Reg) (s : State) : Result :=
  s.writeLanes rd 8 fun j =>
    if s.ul 8 rs1 j < s.ul 8 rs2 j then s.ul 8 rs1 j else s.ul 8 rs2 j

/-- SMAX8, SIMD 8-bit Signed Maximum (rule R252). -/
def execSmax8 (rd rs1 rs2 : Reg) (s : State) : Result :=
  s.writeLanes rd 8 fun j =>
    if s.sl 8 rs1 j > s.sl 8 rs2 j then s.sl 8 rs1 j else s.sl 8 rs2 j

/-- UMAX8, SIMD 8-bit Unsigned Maximum (rule R253). -/
def execUmax8 (rd rs1 rs2 : Reg) (s : State) : Result :=
  s.writeLanes rd 8 fun j =>
    if s.ul 8 rs1 j > s.ul 8 rs2 j then s.ul 8 rs1 j else s.ul 8 rs2 j

/-- KABS8, SIMD 8-bit Saturating Absolute (rule R254). -/
def execKabs8 (rd rs1 : Reg) (s : State) : Result :=
  s.clipLanes rd 8 fun j => satq 7 (iabs (s.sl 8 rs1 j))

/-- SCLIP8, SIMD 8-bit Signed Clip Value (rule R255). -/
def execSclip8 (rd rs1 : Reg) (imm : BitVec 3) (s : State) : Result :=
  s.clipLanes rd 8 fun j => satq imm.toNat (s.sl 8 rs1 j)

/-- UCLIP8, SIMD 8-bit Unsigned Clip Value (rule R256). -/
def execUclip8 (rd rs1 : Reg) (imm : BitVec 3) (s : State) : Result :=
  s.clipLanes rd 8 fun j => satu imm.toNat (s.sl 8 rs1 j)

/-- CLRS8, SIMD 8-bit Count Leading Redundant Sign (rule R257). -/
def execClrs8 (rd rs1 : Reg) (s : State) : Result :=
  s.writeLanes rd 8 fun j => clrsOf (lane 8 (s.x rs1) j)

/-- CLZ8, SIMD 8-bit Count Leading Zero (rule R258). -/
def execClz8 (rd rs1 : Reg) (s : State) : Result :=
  s.writeLanes rd 8 fun j => clzOf (lane 8 (s.x rs1) j)

/-- SWAP8, Swap Byte within Halfword (rule R259). -/
def execSwap8 (rd rs1 : Reg) (s : State) : Result :=
  s.writeLanes rd 8 fun j => s.ul 8 rs1 (partner j)

/-- SUNPKD810, Signed Unpacking Bytes 1 & 0 (rule R260). -/
def execSunpkd810 (rd rs1 : Reg) (s : State) : Result :=
  s.writeLanes rd 16 fun j => s.sl 8 rs1 (unpackByte 1 0 j)

/-- SUNPKD820, Signed Unpacking Bytes 2 & 0 (rule R261). -/
def execSunpkd820 (rd rs1 : Reg) (s : State) : Result :=
  s.writeLanes rd 16 fun j => s.sl 8 rs1 (unpackByte 2 0 j)

/-- SUNPKD830, Signed Unpacking Bytes 3 & 0 (rule R262). -/
def execSunpkd830 (rd rs1 : Reg) (s : State) : Result :=
  s.writeLanes rd 16 fun j => s.sl 8 rs1 (unpackByte 3 0 j)

/-- SUNPKD831, Signed Unpacking Bytes 3 & 1 (rule R263). -/
def execSunpkd831 (rd rs1 : Reg) (s : State) : Result :=
  s.writeLanes rd 16 fun j => s.sl 8 rs1 (unpackByte 3 1 j)

/-- SUNPKD832, Signed Unpacking Bytes 3 & 2 (rule R264). -/
def execSunpkd832 (rd rs1 : Reg) (s : State) : Result :=
  s.writeLanes rd 16 fun j => s.sl 8 rs1 (unpackByte 3 2 j)

/-- ZUNPKD810, Unsigned Unpacking Bytes 1 & 0 (rule R265). -/
def execZunpkd810 (rd rs1 : Reg) (s : State) : Result :=
  s.writeLanes rd 16 fun j => s.ul 8 rs1 (unpackByte 1 0 j)

/-- ZUNPKD820, Unsigned Unpacking Bytes 2 & 0 (rule R266). -/
def execZunpkd820 (rd rs1 : Reg) (s : State) : Result :=
  s.writeLanes rd 16 fun j => s.ul 8 rs1 (unpackByte 2 0 j)

/-- ZUNPKD830, Unsigned Unpacking Bytes 3 & 0 (rule R267). -/
def execZunpkd830 (rd rs1 : Reg) (s : State) : Result :=
  s.writeLanes rd 16 fun j => s.ul 8 rs1 (unpackByte 3 0 j)

/-- ZUNPKD831, Unsigned Unpacking Bytes 3 & 1 (rule R268). -/
def execZunpkd831 (rd rs1 : Reg) (s : State) : Result :=
  s.writeLanes rd 16 fun j => s.ul 8 rs1 (unpackByte 3 1 j)

/-- ZUNPKD832, Unsigned Unpacking Bytes 3 & 2 (rule R269). -/
def execZunpkd832 (rd rs1 : Reg) (s : State) : Result :=
  s.writeLanes rd 16 fun j => s.ul 8 rs1 (unpackByte 3 2 j)

end Sys2Proof.Machine
end

