-- ==== Sys2Proof/Machine/Csr.lean ====
section
/-!
DEFINITION. The meanings of one family: The CSR instructions on `vxsat` (10_state.md R27 to R29).
-/

namespace Sys2Proof.Machine

/-- RDOV, Read OV flag (rule R27). -/
def execRdov (rd : Reg) (s : State) : Result :=
  s.vxsatAccess (s.writeBits rd s.vxsat)

/-- CLROV, Clear OV flag (rule R28). -/
def execClrov (s : State) : Result :=
  s.vxsatAccess (.next (s.setOv false).advance)

/-- CSRRW, CSR access to `vxsat` (rule R29). -/
def execCsrrw (rd rs1 : Reg) (s : State) : Result :=
  s.vxsatAccess (.next ((s.setX rd s.vxsat).setOv ((s.x rs1).getLsbD 0)).advance)

/-- CSRRS, CSR access to `vxsat` (rule R29). -/
def execCsrrs (rd rs1 : Reg) (s : State) : Result :=
  s.vxsatAccess
    (if rs1 = 0#5 then s.writeBits rd s.vxsat
     else .next ((s.setX rd s.vxsat).setOv (s.ov || (s.x rs1).getLsbD 0)).advance)

/-- CSRRC, CSR access to `vxsat` (rule R29). -/
def execCsrrc (rd rs1 : Reg) (s : State) : Result :=
  s.vxsatAccess
    (if rs1 = 0#5 then s.writeBits rd s.vxsat
     else .next ((s.setX rd s.vxsat).setOv (s.ov && !(s.x rs1).getLsbD 0)).advance)

/-- CSRRWI, CSR access to `vxsat` (rule R29). -/
def execCsrrwi (rd : Reg) (uimm : BitVec 5) (s : State) : Result :=
  s.vxsatAccess (.next ((s.setX rd s.vxsat).setOv (uimm.getLsbD 0)).advance)

/-- CSRRSI, CSR access to `vxsat` (rule R29). -/
def execCsrrsi (rd : Reg) (uimm : BitVec 5) (s : State) : Result :=
  s.vxsatAccess
    (if uimm = 0#5 then s.writeBits rd s.vxsat
     else .next ((s.setX rd s.vxsat).setOv (s.ov || uimm.getLsbD 0)).advance)

/-- CSRRCI, CSR access to `vxsat` (rule R29). -/
def execCsrrci (rd : Reg) (uimm : BitVec 5) (s : State) : Result :=
  s.vxsatAccess
    (if uimm = 0#5 then s.writeBits rd s.vxsat
     else .next ((s.setX rd s.vxsat).setOv (s.ov && !uimm.getLsbD 0)).advance)

end Sys2Proof.Machine
end

