-- ==== Sys2Proof/Machine/MulPackMsw.lean ====
section
/-!
DEFINITION. The meanings of one family: 16-bit and 8-bit multiplies, packs, most significant word multiplies (44_simd_mul_pack_msw.md).
-/

namespace Sys2Proof.Machine

/-- SMUL16, SIMD Signed 16-bit Multiply (rule R270). -/
def execSmul16 (rd rs1 rs2 : Reg) (s : State) : Result :=
  s.write64Lanes rd 32 fun i => s.sl 16 rs1 i * s.sl 16 rs2 i

/-- SMULX16, SIMD Signed Crossed 16-bit Multiply (rule R271). -/
def execSmulx16 (rd rs1 rs2 : Reg) (s : State) : Result :=
  s.write64Lanes rd 32 fun i => s.sl 16 rs1 i * s.sl 16 rs2 (partner i)

/-- UMUL16, SIMD Unsigned 16-bit Multiply (rule R272). -/
def execUmul16 (rd rs1 rs2 : Reg) (s : State) : Result :=
  s.write64Lanes rd 32 fun i => s.ul 16 rs1 i * s.ul 16 rs2 i

/-- UMULX16, SIMD Unsigned Crossed 16-bit Multiply (rule R273). -/
def execUmulx16 (rd rs1 rs2 : Reg) (s : State) : Result :=
  s.write64Lanes rd 32 fun i => s.ul 16 rs1 i * s.ul 16 rs2 (partner i)

/-- KHM16, SIMD Signed Saturating Q15 Multiply (rule R274). -/
def execKhm16 (rd rs1 rs2 : Reg) (s : State) : Result :=
  s.clipLanes rd 16 fun j => satq 15 (asr (s.sl 16 rs1 j * s.sl 16 rs2 j) 15)

/-- KHMX16, SIMD Signed Saturating Crossed Q15 Multiply (rule R275). -/
def execKhmx16 (rd rs1 rs2 : Reg) (s : State) : Result :=
  s.clipLanes rd 16 fun j => satq 15 (asr (s.sl 16 rs1 j * s.sl 16 rs2 (partner j)) 15)

/-- SMUL8, SIMD Signed 8-bit Multiply (rule R276). -/
def execSmul8 (rd rs1 rs2 : Reg) (s : State) : Result :=
  s.write64Lanes rd 16 fun i => s.sl 8 rs1 i * s.sl 8 rs2 i

/-- SMULX8, SIMD Signed Crossed 8-bit Multiply (rule R277). -/
def execSmulx8 (rd rs1 rs2 : Reg) (s : State) : Result :=
  s.write64Lanes rd 16 fun i => s.sl 8 rs1 i * s.sl 8 rs2 (partner i)

/-- UMUL8, SIMD Unsigned 8-bit Multiply (rule R278). -/
def execUmul8 (rd rs1 rs2 : Reg) (s : State) : Result :=
  s.write64Lanes rd 16 fun i => s.ul 8 rs1 i * s.ul 8 rs2 i

/-- UMULX8, SIMD Unsigned Crossed 8-bit Multiply (rule R279). -/
def execUmulx8 (rd rs1 rs2 : Reg) (s : State) : Result :=
  s.write64Lanes rd 16 fun i => s.ul 8 rs1 i * s.ul 8 rs2 (partner i)

/-- KHM8, SIMD Signed Saturating Q7 Multiply (rule R280). -/
def execKhm8 (rd rs1 rs2 : Reg) (s : State) : Result :=
  s.clipLanes rd 8 fun j => satq 7 (asr (s.sl 8 rs1 j * s.sl 8 rs2 j) 7)

/-- KHMX8, SIMD Signed Saturating Crossed Q7 Multiply (rule R281). -/
def execKhmx8 (rd rs1 rs2 : Reg) (s : State) : Result :=
  s.clipLanes rd 8 fun j => satq 7 (asr (s.sl 8 rs1 j * s.sl 8 rs2 (partner j)) 7)

/-- PKBB16, Pack Two 16-bit Data from Both Bottom Half (rule R282). -/
def execPkbb16 (rd rs1 rs2 : Reg) (s : State) : Result :=
  s.writeLanes rd 32 fun j => join 16 (s.ul 16 rs1 (2 * j)) (s.ul 16 rs2 (2 * j))

/-- PKBT16, Pack Two 16-bit Data from Bottom and Top Half (rule R283). -/
def execPkbt16 (rd rs1 rs2 : Reg) (s : State) : Result :=
  s.writeLanes rd 32 fun j => join 16 (s.ul 16 rs1 (2 * j)) (s.ul 16 rs2 (2 * j + 1))

/-- PKTT16, Pack Two 16-bit Data from Both Top Half (rule R284). -/
def execPktt16 (rd rs1 rs2 : Reg) (s : State) : Result :=
  s.writeLanes rd 32 fun j => join 16 (s.ul 16 rs1 (2 * j + 1)) (s.ul 16 rs2 (2 * j + 1))

/-- PKTB16, Pack Two 16-bit Data from Top and Bottom Half (rule R285). -/
def execPktb16 (rd rs1 rs2 : Reg) (s : State) : Result :=
  s.writeLanes rd 32 fun j => join 16 (s.ul 16 rs1 (2 * j + 1)) (s.ul 16 rs2 (2 * j))

/-- SMMUL, SIMD MSW Signed Multiply Word (rule R290). -/
def execSmmul (rd rs1 rs2 : Reg) (s : State) : Result :=
  s.writeLanes rd 32 fun j => asr (s.sl 32 rs1 j * s.sl 32 rs2 j) 32

/-- SMMUL, SIMD MSW Signed Multiply Word (rule R290, the RV32 form (R5)). -/
def execSmmulRv32 (rd rs1 rs2 : Reg) (s : State) : Result :=
  s.writeLanes rd 32 fun j => asr (s.sl 32 rs1 j * s.sl 32 rs2 j) 32

/-- SMMUL.u, SIMD MSW Signed Multiply Word with Rounding (rule R291). -/
def execSmmulU (rd rs1 rs2 : Reg) (s : State) : Result :=
  s.writeLanes rd 32 fun j => rnd (s.sl 32 rs1 j * s.sl 32 rs2 j) 32

/-- KMMAC, SIMD Saturating MSW Signed Multiply Word and Add (rule R292). -/
def execKmmac (rd rs1 rs2 : Reg) (s : State) : Result :=
  s.clipLanes rd 32 fun j => satq 31 (s.sl 32 rd j + asr (s.sl 32 rs1 j * s.sl 32 rs2 j) 32)

/-- KMMAC.u, SIMD Saturating MSW Signed Multiply Word and Add with Rounding (rule R293). -/
def execKmmacU (rd rs1 rs2 : Reg) (s : State) : Result :=
  s.clipLanes rd 32 fun j => satq 31 (s.sl 32 rd j + rnd (s.sl 32 rs1 j * s.sl 32 rs2 j) 32)

/-- KMMSB, SIMD Saturating MSW Signed Multiply Word and Subtract (rule R294). -/
def execKmmsb (rd rs1 rs2 : Reg) (s : State) : Result :=
  s.clipLanes rd 32 fun j => satq 31 (s.sl 32 rd j - asr (s.sl 32 rs1 j * s.sl 32 rs2 j) 32)

/-- KMMSB.u, SIMD Saturating MSW Signed Multiply Word and Subtraction with Rounding (rule R295). -/
def execKmmsbU (rd rs1 rs2 : Reg) (s : State) : Result :=
  s.clipLanes rd 32 fun j => satq 31 (s.sl 32 rd j - rnd (s.sl 32 rs1 j * s.sl 32 rs2 j) 32)

/-- KWMMUL, SIMD Saturating MSW Signed Multiply Word & Double (rule R296). -/
def execKwmmul (rd rs1 rs2 : Reg) (s : State) : Result :=
  s.clipLanes rd 32 fun j => satq 31 (asr (s.sl 32 rs1 j * s.sl 32 rs2 j) 31)

/-- KWMMUL.u, SIMD Saturating MSW Signed Multiply Word & Double with Rounding (rule R297). -/
def execKwmmulU (rd rs1 rs2 : Reg) (s : State) : Result :=
  s.clipLanes rd 32 fun j => satq 31 (rnd (s.sl 32 rs1 j * s.sl 32 rs2 j) 31)

/-- SMMWB, SIMD MSW Signed Multiply Word and Bottom Half (rule R298). -/
def execSmmwb (rd rs1 rs2 : Reg) (s : State) : Result :=
  s.writeLanes rd 32 fun j => asr (s.sl 32 rs1 j * s.bot rs2 j) 16

/-- SMMWB.u, SIMD MSW Signed Multiply Word and Bottom Half with Rounding (rule R299). -/
def execSmmwbU (rd rs1 rs2 : Reg) (s : State) : Result :=
  s.writeLanes rd 32 fun j => rnd (s.sl 32 rs1 j * s.bot rs2 j) 16

/-- SMMWT, SIMD MSW Signed Multiply Word and Top Half (rule R300). -/
def execSmmwt (rd rs1 rs2 : Reg) (s : State) : Result :=
  s.writeLanes rd 32 fun j => asr (s.sl 32 rs1 j * s.top rs2 j) 16

/-- SMMWT.u, SIMD MSW Signed Multiply Word and Top Half with Rounding (rule R301). -/
def execSmmwtU (rd rs1 rs2 : Reg) (s : State) : Result :=
  s.writeLanes rd 32 fun j => rnd (s.sl 32 rs1 j * s.top rs2 j) 16

/-- KMMAWB, SIMD Saturating MSW Signed Multiply Word and Bottom Half and Add (rule R302). -/
def execKmmawb (rd rs1 rs2 : Reg) (s : State) : Result :=
  s.clipLanes rd 32 fun j => satq 31 (s.sl 32 rd j + asr (s.sl 32 rs1 j * s.bot rs2 j) 16)

/-- KMMAWB.u, SIMD Saturating MSW Signed Multiply Word and Bottom Half and Add with Rounding (rule R303). -/
def execKmmawbU (rd rs1 rs2 : Reg) (s : State) : Result :=
  s.clipLanes rd 32 fun j => satq 31 (s.sl 32 rd j + rnd (s.sl 32 rs1 j * s.bot rs2 j) 16)

/-- KMMAWT, SIMD Saturating MSW Signed Multiply Word and Top Half and Add (rule R304). -/
def execKmmawt (rd rs1 rs2 : Reg) (s : State) : Result :=
  s.clipLanes rd 32 fun j => satq 31 (s.sl 32 rd j + asr (s.sl 32 rs1 j * s.top rs2 j) 16)

/-- KMMAWT.u, SIMD Saturating MSW Signed Multiply Word and Top Half and Add with Rounding (rule R305). -/
def execKmmawtU (rd rs1 rs2 : Reg) (s : State) : Result :=
  s.clipLanes rd 32 fun j => satq 31 (s.sl 32 rd j + rnd (s.sl 32 rs1 j * s.top rs2 j) 16)

/-- KMMWB2, SIMD Saturating MSW Signed Multiply Word and Bottom Half & 2 (rule R306). -/
def execKmmwb2 (rd rs1 rs2 : Reg) (s : State) : Result :=
  s.clipLanes rd 32 fun j => satq 31 (asr (s.sl 32 rs1 j * s.bot rs2 j) 15)

/-- KMMWB2.u, SIMD Saturating MSW Signed Multiply Word and Bottom Half & 2 with Rounding (rule R307). -/
def execKmmwb2U (rd rs1 rs2 : Reg) (s : State) : Result :=
  s.clipLanes rd 32 fun j => satq 31 (rnd (s.sl 32 rs1 j * s.bot rs2 j) 15)

/-- KMMWT2, SIMD Saturating MSW Signed Multiply Word and Top Half & 2 (rule R308). -/
def execKmmwt2 (rd rs1 rs2 : Reg) (s : State) : Result :=
  s.clipLanes rd 32 fun j => satq 31 (asr (s.sl 32 rs1 j * s.top rs2 j) 15)

/-- KMMWT2.u, SIMD Saturating MSW Signed Multiply Word and Top Half & 2 with Rounding (rule R309). -/
def execKmmwt2U (rd rs1 rs2 : Reg) (s : State) : Result :=
  s.clipLanes rd 32 fun j => satq 31 (rnd (s.sl 32 rs1 j * s.top rs2 j) 15)

/-- KMMAWB2, SIMD Saturating MSW Signed Multiply Word and Bottom Half & 2 and Add (rule R310). -/
def execKmmawb2 (rd rs1 rs2 : Reg) (s : State) : Result :=
  s.clipLanes rd 32 fun j =>
    (satq 31 (asr (s.sl 32 rs1 j * s.bot rs2 j) 15)).andThen fun t => satq 31 (s.sl 32 rd j + t)

/-- KMMAWB2.u, SIMD Saturating MSW Signed Multiply Word and Bottom Half & 2 and Add with Rounding (rule R311). -/
def execKmmawb2U (rd rs1 rs2 : Reg) (s : State) : Result :=
  s.clipLanes rd 32 fun j =>
    (satq 31 (rnd (s.sl 32 rs1 j * s.bot rs2 j) 15)).andThen fun t => satq 31 (s.sl 32 rd j + t)

/-- KMMAWT2, SIMD Saturating MSW Signed Multiply Word and Top Half & 2 and Add (rule R312). -/
def execKmmawt2 (rd rs1 rs2 : Reg) (s : State) : Result :=
  s.clipLanes rd 32 fun j =>
    (satq 31 (asr (s.sl 32 rs1 j * s.top rs2 j) 15)).andThen fun t => satq 31 (s.sl 32 rd j + t)

/-- KMMAWT2.u, SIMD Saturating MSW Signed Multiply Word and Top Half & 2 and Add with Rounding (rule R313). -/
def execKmmawt2U (rd rs1 rs2 : Reg) (s : State) : Result :=
  s.clipLanes rd 32 fun j =>
    (satq 31 (rnd (s.sl 32 rs1 j * s.top rs2 j) 15)).andThen fun t => satq 31 (s.sl 32 rd j + t)

end Sys2Proof.Machine
end

