-- ==== Sys2Proof/Machine/NonSimd.lean ====
section
/-!
DEFINITION. The meanings of one family: The non-SIMD instructions (47_nonsimd.md).
-/

namespace Sys2Proof.Machine

/-- KADDH, Signed Addition with Q15 Saturation (rule R402). -/
def execKaddh (rd rs1 rs2 : Reg) (s : State) : Result :=
  s.clipH rd (satq 15 (s.sl 16 rs1 0 + s.sl 16 rs2 0))

/-- KSUBH, Signed Subtraction with Q15 Saturation (rule R403). -/
def execKsubh (rd rs1 rs2 : Reg) (s : State) : Result :=
  s.clipH rd (satq 15 (s.sl 16 rs1 0 - s.sl 16 rs2 0))

/-- KHMBB, Signed Saturating Half Multiply B16 x B16 (rule R404). -/
def execKhmbb (rd rs1 rs2 : Reg) (s : State) : Result :=
  s.clipH rd (satq 15 (asr (s.bot rs1 0 * s.bot rs2 0) 15))

/-- KHMBT, Signed Saturating Half Multiply B16 x T16 (rule R405). -/
def execKhmbt (rd rs1 rs2 : Reg) (s : State) : Result :=
  s.clipH rd (satq 15 (asr (s.bot rs1 0 * s.top rs2 0) 15))

/-- KHMTT, Signed Saturating Half Multiply T16 x T16 (rule R406). -/
def execKhmtt (rd rs1 rs2 : Reg) (s : State) : Result :=
  s.clipH rd (satq 15 (asr (s.top rs1 0 * s.top rs2 0) 15))

/-- UKADDH, Unsigned Addition with U16 Saturation (rule R407). -/
def execUkaddh (rd rs1 rs2 : Reg) (s : State) : Result :=
  s.clipH rd (satu 16 (s.ul 16 rs1 0 + s.ul 16 rs2 0))

/-- UKSUBH, Unsigned Subtraction with U16 Saturation (rule R408). -/
def execUksubh (rd rs1 rs2 : Reg) (s : State) : Result :=
  s.clipH rd (satu 16 (s.ul 16 rs1 0 - s.ul 16 rs2 0))

/-- KADDW, Signed Addition with Q31 Saturation (rule R410). -/
def execKaddw (rd rs1 rs2 : Reg) (s : State) : Result :=
  s.clipW rd (satq 31 (s.sl 32 rs1 0 + s.sl 32 rs2 0))

/-- UKADDW, Unsigned Addition with U32 Saturation (rule R411). -/
def execUkaddw (rd rs1 rs2 : Reg) (s : State) : Result :=
  s.clipW rd (satu 32 (s.ul 32 rs1 0 + s.ul 32 rs2 0))

/-- KSUBW, Signed Subtraction with Q31 Saturation (rule R412). -/
def execKsubw (rd rs1 rs2 : Reg) (s : State) : Result :=
  s.clipW rd (satq 31 (s.sl 32 rs1 0 - s.sl 32 rs2 0))

/-- UKSUBW, Unsigned Subtraction with U32 Saturation (rule R413). -/
def execUksubw (rd rs1 rs2 : Reg) (s : State) : Result :=
  s.clipW rd (satu 32 (s.ul 32 rs1 0 - s.ul 32 rs2 0))

/-- KDMBB, Signed Saturating Double Multiply B16 x B16 (rule R414). -/
def execKdmbb (rd rs1 rs2 : Reg) (s : State) : Result :=
  s.clipW rd (satq 31 (shl (s.bot rs1 0 * s.bot rs2 0) 1))

/-- KDMBT, Signed Saturating Double Multiply B16 x T16 (rule R415). -/
def execKdmbt (rd rs1 rs2 : Reg) (s : State) : Result :=
  s.clipW rd (satq 31 (shl (s.bot rs1 0 * s.top rs2 0) 1))

/-- KDMTT, Signed Saturating Double Multiply T16 x T16 (rule R416). -/
def execKdmtt (rd rs1 rs2 : Reg) (s : State) : Result :=
  s.clipW rd (satq 31 (shl (s.top rs1 0 * s.top rs2 0) 1))

/-- KSLRAW, Shift Left Logical with Q31 Saturation or Shift Right Arithmetic (rule R417). -/
def execKslraw (rd rs1 rs2 : Reg) (s : State) : Result :=
  s.clipW rd (shiftLR 32 asr (s.sl 32 rs1 0) (s.slow 6 rs2))

/-- KSLRAW.u, Shift Left Logical with Q31 Saturation or Rounding Shift Right Arithmetic (rule R418). -/
def execKslrawU (rd rs1 rs2 : Reg) (s : State) : Result :=
  s.clipW rd (shiftLR 32 rnd (s.sl 32 rs1 0) (s.slow 6 rs2))

/-- KSLLW, Saturating Shift Left Logical for Word (rule R419). -/
def execKsllw (rd rs1 rs2 : Reg) (s : State) : Result :=
  s.clipW rd (satq 31 (shl (s.sl 32 rs1 0) (s.low 5 rs2)))

/-- KSLLIW, Saturating Shift Left Logical Immediate for Word (rule R420). -/
def execKslliw (rd rs1 : Reg) (imm : BitVec 5) (s : State) : Result :=
  s.clipW rd (satq 31 (shl (s.sl 32 rs1 0) imm.toNat))

/-- KDMABB, Signed Saturating Double Multiply Addition B16 x B16 (rule R421). -/
def execKdmabb (rd rs1 rs2 : Reg) (s : State) : Result :=
  s.clipW rd
    ((satq 31 (shl (s.bot rs1 0 * s.bot rs2 0) 1)).andThen fun m => satq 31 (s.sl 32 rd 0 + m))

/-- KDMABT, Signed Saturating Double Multiply Addition B16 x T16 (rule R422). -/
def execKdmabt (rd rs1 rs2 : Reg) (s : State) : Result :=
  s.clipW rd
    ((satq 31 (shl (s.bot rs1 0 * s.top rs2 0) 1)).andThen fun m => satq 31 (s.sl 32 rd 0 + m))

/-- KDMATT, Signed Saturating Double Multiply Addition T16 x T16 (rule R423). -/
def execKdmatt (rd rs1 rs2 : Reg) (s : State) : Result :=
  s.clipW rd
    ((satq 31 (shl (s.top rs1 0 * s.top rs2 0) 1)).andThen fun m => satq 31 (s.sl 32 rd 0 + m))

/-- KABSW, Scalar 32-bit Absolute Value with Saturation (rule R424). -/
def execKabsw (rd rs1 : Reg) (s : State) : Result :=
  s.clipW rd (satq 31 (iabs (s.sl 32 rs1 0)))

/-- RADDW, 32-bit Signed Halving Addition (rule R426). -/
def execRaddw (rd rs1 rs2 : Reg) (s : State) : Result :=
  s.writeW rd (halve (s.sl 32 rs1 0 + s.sl 32 rs2 0))

/-- URADDW, 32-bit Unsigned Halving Addition (rule R427). -/
def execUraddw (rd rs1 rs2 : Reg) (s : State) : Result :=
  s.writeW rd (halve (s.ul 32 rs1 0 + s.ul 32 rs2 0))

/-- RSUBW, 32-bit Signed Halving Subtraction (rule R428). -/
def execRsubw (rd rs1 rs2 : Reg) (s : State) : Result :=
  s.writeW rd (halve (s.sl 32 rs1 0 - s.sl 32 rs2 0))

/-- URSUBW, 32-bit Unsigned Halving Subtraction (rule R429). -/
def execUrsubw (rd rs1 rs2 : Reg) (s : State) : Result :=
  s.writeW rd (halve (s.ul 32 rs1 0 - s.ul 32 rs2 0))

/-- MULR64, Multiply Word Unsigned to 64-bit Data (rule R430). -/
def execMulr64 (rd rs1 rs2 : Reg) (s : State) : Result :=
  s.write64 rd (s.ul 32 rs1 0 * s.ul 32 rs2 0)

/-- MULSR64, Multiply Word Signed to 64-bit Data (rule R431). -/
def execMulsr64 (rd rs1 rs2 : Reg) (s : State) : Result :=
  s.write64 rd (s.sl 32 rs1 0 * s.sl 32 rs2 0)

/-- MSUBR32, Multiply and Subtract from 32-Bit Word (rule R432). -/
def execMsubr32 (rd rs1 rs2 : Reg) (s : State) : Result :=
  s.writeW rd (s.ul 32 rd 0 - s.ul 32 rs1 0 * s.ul 32 rs2 0)

/-- AVE, Average with Rounding (rule R435). -/
def execAve (rd rs1 rs2 : Reg) (s : State) : Result :=
  s.writeX rd (asr (s.sx rs1 + s.sx rs2 + 1) 1)

/-- SRA.u, Rounding Shift Right Arithmetic (rule R436). -/
def execSraU (rd rs1 rs2 : Reg) (s : State) : Result :=
  s.writeX rd (rnd (s.sx rs1) (s.amountX rs2))

/-- BITREV, Bit Reverse (rule R437). -/
def execBitrev (rd rs1 rs2 : Reg) (s : State) : Result :=
  s.writeBits rd (bitReverse (s.amountX rs2) (s.x rs1))

/-- BITREVI, Bit Reverse Immediate (rule R438, the RV32 form). -/
def execBitreviRv32 (rd rs1 : Reg) (imm : BitVec 5) (s : State) : Result :=
  s.writeBits rd (bitReverse imm.toNat (s.x rs1))

/-- BITREVI, Bit Reverse Immediate (rule R438, the RV64 form). -/
def execBitreviRv64 (rd rs1 : Reg) (imm : BitVec 6) (s : State) : Result :=
  s.writeBits rd (bitReverse imm.toNat (s.x rs1))

/-- SRAI.u, Rounding Shift Right Arithmetic Immediate (rule R439, the RV32 form). -/
def execSraiURv32 (rd rs1 : Reg) (imm : BitVec 5) (s : State) : Result :=
  s.writeX rd (rnd (s.sx rs1) imm.toNat)

/-- SRAI.u, Rounding Shift Right Arithmetic Immediate (rule R439, the RV64 form). -/
def execSraiURv64 (rd rs1 : Reg) (imm : BitVec 6) (s : State) : Result :=
  s.writeX rd (rnd (s.sx rs1) imm.toNat)

/-- INSB, Insert Byte (rule R440, the RV32 form). -/
def execInsbRv32 (rd rs1 : Reg) (imm : BitVec 2) (s : State) : Result :=
  s.writeBits rd (insertByte imm.toNat (lane 8 (s.x rs1) 0) (s.x rd))

/-- INSB, Insert Byte (rule R440, the RV64 form). -/
def execInsbRv64 (rd rs1 : Reg) (imm : BitVec 3) (s : State) : Result :=
  s.writeBits rd (insertByte imm.toNat (lane 8 (s.x rs1) 0) (s.x rd))

/-- WEXT, Extract Word from 64-bit (rule R441). -/
def execWext (rd rs1 rs2 : Reg) (s : State) : Result :=
  s.writeBits rd (wordAt (s.low 5 rs2) (s.x64 rs1))

/-- WEXTI, Extract Word from 64-bit Immediate (rule R442). -/
def execWexti (rd rs1 : Reg) (imm : BitVec 5) (s : State) : Result :=
  s.writeBits rd (wordAt imm.toNat (s.x64 rs1))

/-- MADDR32, Multiply and Add to 32-Bit Word (rule R443). -/
def execMaddr32 (rd rs1 rs2 : Reg) (s : State) : Result :=
  s.writeW rd (s.ul 32 rd 0 + s.ul 32 rs1 0 * s.ul 32 rs2 0)

end Sys2Proof.Machine
end

