-- ==== Sys2Proof/Machine/PartialSimd.lean ====
section
/-!
DEFINITION. The meanings of one family: 16-bit multiplies with 32-bit sums, 32-bit miscellaneous, byte sums (45_partial_simd_mul16.md).
-/

namespace Sys2Proof.Machine

/-- SMBB16, SIMD Signed Multiply Bottom Half & Bottom Half (rule R321). -/
def execSmbb16 (rd rs1 rs2 : Reg) (s : State) : Result :=
  s.writeLanes rd 32 fun j => s.bot rs1 j * s.bot rs2 j

/-- SMBT16, SIMD Signed Multiply Bottom Half & Top Half (rule R322). -/
def execSmbt16 (rd rs1 rs2 : Reg) (s : State) : Result :=
  s.writeLanes rd 32 fun j => s.bot rs1 j * s.top rs2 j

/-- SMTT16, SIMD Signed Multiply Top Half & Top Half (rule R323). -/
def execSmtt16 (rd rs1 rs2 : Reg) (s : State) : Result :=
  s.writeLanes rd 32 fun j => s.top rs1 j * s.top rs2 j

/-- KMDA, SIMD Signed Multiply Two Halfs and Add (rule R324). -/
def execKmda (rd rs1 rs2 : Reg) (s : State) : Result :=
  s.clipLanes rd 32 fun j => satq 31 (s.top rs1 j * s.top rs2 j + s.bot rs1 j * s.bot rs2 j)

/-- KMXDA, SIMD Signed Crossed Multiply Two Halfs and Add (rule R325). -/
def execKmxda (rd rs1 rs2 : Reg) (s : State) : Result :=
  s.clipLanes rd 32 fun j => satq 31 (s.top rs1 j * s.bot rs2 j + s.bot rs1 j * s.top rs2 j)

/-- SMDS, SIMD Signed Multiply Two Halfs and Subtract (rule R326). -/
def execSmds (rd rs1 rs2 : Reg) (s : State) : Result :=
  s.writeLanes rd 32 fun j => s.top rs1 j * s.top rs2 j - s.bot rs1 j * s.bot rs2 j

/-- SMDRS, SIMD Signed Multiply Two Halfs and Reverse Subtract (rule R327). -/
def execSmdrs (rd rs1 rs2 : Reg) (s : State) : Result :=
  s.writeLanes rd 32 fun j => s.bot rs1 j * s.bot rs2 j - s.top rs1 j * s.top rs2 j

/-- SMXDS, SIMD Signed Crossed Multiply Two Halfs and Subtract (rule R328). -/
def execSmxds (rd rs1 rs2 : Reg) (s : State) : Result :=
  s.writeLanes rd 32 fun j => s.top rs1 j * s.bot rs2 j - s.bot rs1 j * s.top rs2 j

/-- KMABB, SIMD Saturating Signed Multiply Bottom Halfs & Add (rule R329). -/
def execKmabb (rd rs1 rs2 : Reg) (s : State) : Result :=
  s.clipLanes rd 32 fun j => satq 31 (s.sl 32 rd j + s.bot rs1 j * s.bot rs2 j)

/-- KMABT, SIMD Saturating Signed Multiply Bottom & Top Halfs & Add (rule R330). -/
def execKmabt (rd rs1 rs2 : Reg) (s : State) : Result :=
  s.clipLanes rd 32 fun j => satq 31 (s.sl 32 rd j + s.bot rs1 j * s.top rs2 j)

/-- KMATT, SIMD Saturating Signed Multiply Top Halfs & Add (rule R331). -/
def execKmatt (rd rs1 rs2 : Reg) (s : State) : Result :=
  s.clipLanes rd 32 fun j => satq 31 (s.sl 32 rd j + s.top rs1 j * s.top rs2 j)

/-- KMADA, SIMD Saturating Signed Multiply Two Halfs and Two Adds (rule R332). -/
def execKmada (rd rs1 rs2 : Reg) (s : State) : Result :=
  s.clipLanes rd 32 fun j =>
    satq 31 (s.sl 32 rd j + s.top rs1 j * s.top rs2 j + s.bot rs1 j * s.bot rs2 j)

/-- KMAXDA, SIMD Saturating Signed Crossed Multiply Two Halfs and Two Adds (rule R333). -/
def execKmaxda (rd rs1 rs2 : Reg) (s : State) : Result :=
  s.clipLanes rd 32 fun j =>
    satq 31 (s.sl 32 rd j + s.top rs1 j * s.bot rs2 j + s.bot rs1 j * s.top rs2 j)

/-- KMADS, SIMD Saturating Signed Multiply Two Halfs & Subtract & Add (rule R334). -/
def execKmads (rd rs1 rs2 : Reg) (s : State) : Result :=
  s.clipLanes rd 32 fun j =>
    satq 31 (s.sl 32 rd j + s.top rs1 j * s.top rs2 j - s.bot rs1 j * s.bot rs2 j)

/-- KMADRS, SIMD Saturating Signed Multiply Two Halfs & Reverse Subtract & Add (rule R335). -/
def execKmadrs (rd rs1 rs2 : Reg) (s : State) : Result :=
  s.clipLanes rd 32 fun j =>
    satq 31 (s.sl 32 rd j + s.bot rs1 j * s.bot rs2 j - s.top rs1 j * s.top rs2 j)

/-- KMAXDS, SIMD Saturating Signed Crossed Multiply Two Halfs & Subtract & Add (rule R336). -/
def execKmaxds (rd rs1 rs2 : Reg) (s : State) : Result :=
  s.clipLanes rd 32 fun j =>
    satq 31 (s.sl 32 rd j + s.top rs1 j * s.bot rs2 j - s.bot rs1 j * s.top rs2 j)

/-- KMSDA, SIMD Saturating Signed Multiply Two Halfs & Add & Subtract (rule R337). -/
def execKmsda (rd rs1 rs2 : Reg) (s : State) : Result :=
  s.clipLanes rd 32 fun j =>
    satq 31 (s.sl 32 rd j - s.top rs1 j * s.top rs2 j - s.bot rs1 j * s.bot rs2 j)

/-- KMSXDA, SIMD Saturating Signed Crossed Multiply Two Halfs & Add & Subtract (rule R338). -/
def execKmsxda (rd rs1 rs2 : Reg) (s : State) : Result :=
  s.clipLanes rd 32 fun j =>
    satq 31 (s.sl 32 rd j - s.top rs1 j * s.bot rs2 j - s.bot rs1 j * s.top rs2 j)

/-- SMAL, Signed Multiply Halfs & Add 64-bit (rule R339). -/
def execSmal (rd rs1 rs2 : Reg) (s : State) : Result :=
  s.write64 rd (sval (s.x64 rs1) + s.wordSum fun j => s.top rs2 j * s.bot rs2 j)

/-- SCLIP32, SIMD 32-bit Signed Clip Value (rule R341). -/
def execSclip32 (rd rs1 : Reg) (imm : BitVec 5) (s : State) : Result :=
  s.clipLanes rd 32 fun j => satq imm.toNat (s.sl 32 rs1 j)

/-- UCLIP32, SIMD 32-bit Unsigned Clip Value (rule R342). -/
def execUclip32 (rd rs1 : Reg) (imm : BitVec 5) (s : State) : Result :=
  s.clipLanes rd 32 fun j => satu imm.toNat (s.sl 32 rs1 j)

/-- CLZ32, SIMD 32-bit Count Leading Zero (rule R343). -/
def execClz32 (rd rs1 : Reg) (s : State) : Result :=
  s.writeLanes rd 32 fun j => clzOf (lane 32 (s.x rs1) j)

/-- CLRS32, SIMD 32-bit Count Leading Redundant Sign (rule R344). -/
def execClrs32 (rd rs1 : Reg) (s : State) : Result :=
  s.writeLanes rd 32 fun j => clrsOf (lane 32 (s.x rs1) j)

/-- PBSAD, Parallel Byte Sum of Absolute Difference (rule R345). -/
def execPbsad (rd rs1 rs2 : Reg) (s : State) : Result :=
  s.writeX rd (s.byteDiffs rs1 rs2)

/-- PBSADA, Parallel Byte Sum of Absolute Difference Accum (rule R346). -/
def execPbsada (rd rs1 rs2 : Reg) (s : State) : Result :=
  s.writeX rd (s.ux rd + s.byteDiffs rs1 rs2)

/-- SMAQA, Signed Multiply Four Bytes with 32-bit Adds (rule R348). -/
def execSmaqa (rd rs1 rs2 : Reg) (s : State) : Result :=
  s.writeLanes rd 32 fun j =>
    s.sl 32 rd j + sumOver 4 fun i => s.sl 8 rs1 (4 * j + i) * s.sl 8 rs2 (4 * j + i)

/-- UMAQA, Unsigned Multiply Four Bytes with 32-bit Adds (rule R349). -/
def execUmaqa (rd rs1 rs2 : Reg) (s : State) : Result :=
  s.writeLanes rd 32 fun j =>
    s.ul 32 rd j + sumOver 4 fun i => s.ul 8 rs1 (4 * j + i) * s.ul 8 rs2 (4 * j + i)

/-- SMAQA.SU, Signed and Unsigned Multiply Four Bytes with 32-bit Adds (rule R350). -/
def execSmaqaSu (rd rs1 rs2 : Reg) (s : State) : Result :=
  s.writeLanes rd 32 fun j =>
    s.sl 32 rd j + sumOver 4 fun i => s.sl 8 rs1 (4 * j + i) * s.ul 8 rs2 (4 * j + i)

end Sys2Proof.Machine
end

