-- ==== Sys2Proof/Machine/Profile64.lean ====
section
/-!
DEFINITION. The meanings of one family: The 64-bit profile (46_64bit_profile.md).
-/

namespace Sys2Proof.Machine

/-- ADD64, 64-bit Addition (rule R362). -/
def execAdd64 (rd rs1 rs2 : Reg) (s : State) : Result :=
  s.write64 rd (uval (s.x64 rs1) + uval (s.x64 rs2))

/-- RADD64, 64-bit Signed Halving Addition (rule R363). -/
def execRadd64 (rd rs1 rs2 : Reg) (s : State) : Result :=
  s.write64 rd (halve (sval (s.x64 rs1) + sval (s.x64 rs2)))

/-- URADD64, 64-bit Unsigned Halving Addition (rule R364). -/
def execUradd64 (rd rs1 rs2 : Reg) (s : State) : Result :=
  s.write64 rd (halve (uval (s.x64 rs1) + uval (s.x64 rs2)))

/-- KADD64, 64-bit Signed Saturating Addition (rule R365). -/
def execKadd64 (rd rs1 rs2 : Reg) (s : State) : Result :=
  s.clip64 rd (satq 63 (sval (s.x64 rs1) + sval (s.x64 rs2)))

/-- UKADD64, 64-bit Unsigned Saturating Addition (rule R366). -/
def execUkadd64 (rd rs1 rs2 : Reg) (s : State) : Result :=
  s.clip64 rd (satu 64 (uval (s.x64 rs1) + uval (s.x64 rs2)))

/-- SUB64, 64-bit Subtraction (rule R367). -/
def execSub64 (rd rs1 rs2 : Reg) (s : State) : Result :=
  s.write64 rd (uval (s.x64 rs1) - uval (s.x64 rs2))

/-- RSUB64, 64-bit Signed Halving Subtraction (rule R368). -/
def execRsub64 (rd rs1 rs2 : Reg) (s : State) : Result :=
  s.write64 rd (halve (sval (s.x64 rs1) - sval (s.x64 rs2)))

/-- URSUB64, 64-bit Unsigned Halving Subtraction (rule R369). -/
def execUrsub64 (rd rs1 rs2 : Reg) (s : State) : Result :=
  s.write64 rd (halve (uval (s.x64 rs1) - uval (s.x64 rs2)))

/-- KSUB64, 64-bit Signed Saturating Subtraction (rule R370). -/
def execKsub64 (rd rs1 rs2 : Reg) (s : State) : Result :=
  s.clip64 rd (satq 63 (sval (s.x64 rs1) - sval (s.x64 rs2)))

/-- UKSUB64, 64-bit Unsigned Saturating Subtraction (rule R371). -/
def execUksub64 (rd rs1 rs2 : Reg) (s : State) : Result :=
  s.clip64 rd (satu 64 (uval (s.x64 rs1) - uval (s.x64 rs2)))

/-- SMAR64, Signed Multiply and Add to 64-Bit Data (rule R373). -/
def execSmar64 (rd rs1 rs2 : Reg) (s : State) : Result :=
  s.write64 rd (sval (s.x64 rd) + s.wordSum fun j => s.sl 32 rs1 j * s.sl 32 rs2 j)

/-- SMSR64, Signed Multiply and Subtract from 64-Bit Data (rule R374). -/
def execSmsr64 (rd rs1 rs2 : Reg) (s : State) : Result :=
  s.write64 rd (sval (s.x64 rd) - s.wordSum fun j => s.sl 32 rs1 j * s.sl 32 rs2 j)

/-- UMAR64, Unsigned Multiply and Add to 64-Bit Data (rule R375). -/
def execUmar64 (rd rs1 rs2 : Reg) (s : State) : Result :=
  s.write64 rd (uval (s.x64 rd) + s.wordSum fun j => s.ul 32 rs1 j * s.ul 32 rs2 j)

/-- UMSR64, Unsigned Multiply and Subtract from 64-Bit Data (rule R376). -/
def execUmsr64 (rd rs1 rs2 : Reg) (s : State) : Result :=
  s.write64 rd (uval (s.x64 rd) - s.wordSum fun j => s.ul 32 rs1 j * s.ul 32 rs2 j)

/-- KMAR64, Signed Multiply and Saturating Add to 64-Bit Data (rule R377). -/
def execKmar64 (rd rs1 rs2 : Reg) (s : State) : Result :=
  s.clip64 rd (satq 63 (sval (s.x64 rd) + s.wordSum fun j => s.sl 32 rs1 j * s.sl 32 rs2 j))

/-- KMSR64, Signed Multiply and Saturating Subtract from 64-Bit Data (rule R378). -/
def execKmsr64 (rd rs1 rs2 : Reg) (s : State) : Result :=
  s.clip64 rd (satq 63 (sval (s.x64 rd) - s.wordSum fun j => s.sl 32 rs1 j * s.sl 32 rs2 j))

/-- UKMAR64, Unsigned Multiply and Saturating Add to 64-Bit Data (rule R379). -/
def execUkmar64 (rd rs1 rs2 : Reg) (s : State) : Result :=
  s.clip64 rd (satu 64 (uval (s.x64 rd) + s.wordSum fun j => s.ul 32 rs1 j * s.ul 32 rs2 j))

/-- UKMSR64, Unsigned Multiply and Saturating Subtract from 64-Bit Data (rule R380). -/
def execUkmsr64 (rd rs1 rs2 : Reg) (s : State) : Result :=
  s.clip64 rd (satu 64 (uval (s.x64 rd) - s.wordSum fun j => s.ul 32 rs1 j * s.ul 32 rs2 j))

/-- SMALBB, Signed Multiply Bottom Halfs & Add 64-bit (rule R382). -/
def execSmalbb (rd rs1 rs2 : Reg) (s : State) : Result :=
  s.write64 rd (sval (s.x64 rd) + s.wordSum fun j => s.bot rs1 j * s.bot rs2 j)

/-- SMALBT, Signed Multiply Bottom Half & Top Half & Add 64-bit (rule R383). -/
def execSmalbt (rd rs1 rs2 : Reg) (s : State) : Result :=
  s.write64 rd (sval (s.x64 rd) + s.wordSum fun j => s.bot rs1 j * s.top rs2 j)

/-- SMALTT, Signed Multiply Top Halfs & Add 64-bit (rule R384). -/
def execSmaltt (rd rs1 rs2 : Reg) (s : State) : Result :=
  s.write64 rd (sval (s.x64 rd) + s.wordSum fun j => s.top rs1 j * s.top rs2 j)

/-- SMALDA, Signed Multiply Two Halfs and Two Adds 64-bit (rule R385). -/
def execSmalda (rd rs1 rs2 : Reg) (s : State) : Result :=
  s.write64 rd (sval (s.x64 rd) + s.wordSum fun j => s.bot rs1 j * s.bot rs2 j + s.top rs1 j * s.top rs2 j)

/-- SMALXDA, Signed Crossed Multiply Two Halfs and Two Adds 64-bit (rule R386). -/
def execSmalxda (rd rs1 rs2 : Reg) (s : State) : Result :=
  s.write64 rd (sval (s.x64 rd) + s.wordSum fun j => s.bot rs1 j * s.top rs2 j + s.top rs1 j * s.bot rs2 j)

/-- SMALDS, Signed Multiply Two Halfs & Subtract & Add 64-bit (rule R387). -/
def execSmalds (rd rs1 rs2 : Reg) (s : State) : Result :=
  s.write64 rd (sval (s.x64 rd) + s.wordSum fun j => s.top rs1 j * s.top rs2 j - s.bot rs1 j * s.bot rs2 j)

/-- SMALDRS, Signed Multiply Two Halfs & Reverse Subtract & Add 64-bit (rule R388). -/
def execSmaldrs (rd rs1 rs2 : Reg) (s : State) : Result :=
  s.write64 rd (sval (s.x64 rd) + s.wordSum fun j => s.bot rs1 j * s.bot rs2 j - s.top rs1 j * s.top rs2 j)

/-- SMALXDS, Signed Crossed Multiply Two Halfs & Subtract & Add 64-bit (rule R389). -/
def execSmalxds (rd rs1 rs2 : Reg) (s : State) : Result :=
  s.write64 rd (sval (s.x64 rd) + s.wordSum fun j => s.top rs1 j * s.bot rs2 j - s.bot rs1 j * s.top rs2 j)

/-- SMSLDA, Signed Multiply Two Halfs & Add & Subtract 64-bit (rule R390). -/
def execSmslda (rd rs1 rs2 : Reg) (s : State) : Result :=
  s.write64 rd (sval (s.x64 rd) - s.wordSum fun j => s.bot rs1 j * s.bot rs2 j + s.top rs1 j * s.top rs2 j)

/-- SMSLXDA, Signed Crossed Multiply Two Halfs & Add & Subtract 64-bit (rule R391). -/
def execSmslxda (rd rs1 rs2 : Reg) (s : State) : Result :=
  s.write64 rd (sval (s.x64 rd) - s.wordSum fun j => s.bot rs1 j * s.top rs2 j + s.top rs1 j * s.bot rs2 j)

end Sys2Proof.Machine
end

