-- ==== Sys2Proof/Machine/Rv64AddSubShift.lean ====
section
/-!
DEFINITION. The meanings of one family: The RV64-only 32-bit SIMD additions, subtractions and shifts (48_rv64_addsub_shift.md).
-/

namespace Sys2Proof.Machine

/-- ADD32, SIMD 32-bit Addition (rule R453). -/
def execAdd32 (rd rs1 rs2 : Reg) (s : State) : Result :=
  s.writeLanes rd 32 fun j => s.ul 32 rs1 j + s.ul 32 rs2 j

/-- RADD32, SIMD 32-bit Signed Halving Addition (rule R454). -/
def execRadd32 (rd rs1 rs2 : Reg) (s : State) : Result :=
  s.writeLanes rd 32 fun j => halve (s.sl 32 rs1 j + s.sl 32 rs2 j)

/-- URADD32, SIMD 32-bit Unsigned Halving Addition (rule R455). -/
def execUradd32 (rd rs1 rs2 : Reg) (s : State) : Result :=
  s.writeLanes rd 32 fun j => halve (s.ul 32 rs1 j + s.ul 32 rs2 j)

/-- KADD32, SIMD 32-bit Signed Saturating Addition (rule R456). -/
def execKadd32 (rd rs1 rs2 : Reg) (s : State) : Result :=
  s.clipLanes rd 32 fun j => satq 31 (s.sl 32 rs1 j + s.sl 32 rs2 j)

/-- UKADD32, SIMD 32-bit Unsigned Saturating Addition (rule R457). -/
def execUkadd32 (rd rs1 rs2 : Reg) (s : State) : Result :=
  s.clipLanes rd 32 fun j => satu 32 (s.ul 32 rs1 j + s.ul 32 rs2 j)

/-- SUB32, SIMD 32-bit Subtraction (rule R458). -/
def execSub32 (rd rs1 rs2 : Reg) (s : State) : Result :=
  s.writeLanes rd 32 fun j => s.ul 32 rs1 j - s.ul 32 rs2 j

/-- RSUB32, SIMD 32-bit Signed Halving Subtraction (rule R459). -/
def execRsub32 (rd rs1 rs2 : Reg) (s : State) : Result :=
  s.writeLanes rd 32 fun j => halve (s.sl 32 rs1 j - s.sl 32 rs2 j)

/-- URSUB32, SIMD 32-bit Unsigned Halving Subtraction (rule R460). -/
def execUrsub32 (rd rs1 rs2 : Reg) (s : State) : Result :=
  s.writeLanes rd 32 fun j => halve (s.ul 32 rs1 j - s.ul 32 rs2 j)

/-- KSUB32, SIMD 32-bit Signed Saturating Subtraction (rule R461). -/
def execKsub32 (rd rs1 rs2 : Reg) (s : State) : Result :=
  s.clipLanes rd 32 fun j => satq 31 (s.sl 32 rs1 j - s.sl 32 rs2 j)

/-- UKSUB32, SIMD 32-bit Unsigned Saturating Subtraction (rule R462). -/
def execUksub32 (rd rs1 rs2 : Reg) (s : State) : Result :=
  s.clipLanes rd 32 fun j => satu 32 (s.ul 32 rs1 j - s.ul 32 rs2 j)

/-- CRAS32, SIMD 32-bit Cross Addition & Subtraction (rule R463). -/
def execCras32 (rd rs1 rs2 : Reg) (s : State) : Result :=
  s.writeLanes rd 32 fun j => topAdds j (s.ul 32 rs1 j) (s.ul 32 rs2 (partner j))

/-- RCRAS32, SIMD 32-bit Signed Halving Cross Addition & Subtraction (rule R464). -/
def execRcras32 (rd rs1 rs2 : Reg) (s : State) : Result :=
  s.writeLanes rd 32 fun j => halve (topAdds j (s.sl 32 rs1 j) (s.sl 32 rs2 (partner j)))

/-- URCRAS32, SIMD 32-bit Unsigned Halving Cross Addition & Subtraction (rule R465). -/
def execUrcras32 (rd rs1 rs2 : Reg) (s : State) : Result :=
  s.writeLanes rd 32 fun j => halve (topAdds j (s.ul 32 rs1 j) (s.ul 32 rs2 (partner j)))

/-- KCRAS32, SIMD 32-bit Signed Saturating Cross Addition & Subtraction (rule R466). -/
def execKcras32 (rd rs1 rs2 : Reg) (s : State) : Result :=
  s.clipLanes rd 32 fun j => satq 31 (topAdds j (s.sl 32 rs1 j) (s.sl 32 rs2 (partner j)))

/-- UKCRAS32, SIMD 32-bit Unsigned Saturating Cross Addition & Subtraction (rule R467). -/
def execUkcras32 (rd rs1 rs2 : Reg) (s : State) : Result :=
  s.clipLanes rd 32 fun j => satu 32 (topAdds j (s.ul 32 rs1 j) (s.ul 32 rs2 (partner j)))

/-- CRSA32, SIMD 32-bit Cross Subtraction & Addition (rule R468). -/
def execCrsa32 (rd rs1 rs2 : Reg) (s : State) : Result :=
  s.writeLanes rd 32 fun j => topSubtracts j (s.ul 32 rs1 j) (s.ul 32 rs2 (partner j))

/-- RCRSA32, SIMD 32-bit Signed Halving Cross Subtraction & Addition (rule R469). -/
def execRcrsa32 (rd rs1 rs2 : Reg) (s : State) : Result :=
  s.writeLanes rd 32 fun j => halve (topSubtracts j (s.sl 32 rs1 j) (s.sl 32 rs2 (partner j)))

/-- URCRSA32, SIMD 32-bit Unsigned Halving Cross Subtraction & Addition (rule R470). -/
def execUrcrsa32 (rd rs1 rs2 : Reg) (s : State) : Result :=
  s.writeLanes rd 32 fun j => halve (topSubtracts j (s.ul 32 rs1 j) (s.ul 32 rs2 (partner j)))

/-- KCRSA32, SIMD 32-bit Signed Saturating Cross Subtraction & Addition (rule R471). -/
def execKcrsa32 (rd rs1 rs2 : Reg) (s : State) : Result :=
  s.clipLanes rd 32 fun j => satq 31 (topSubtracts j (s.sl 32 rs1 j) (s.sl 32 rs2 (partner j)))

/-- UKCRSA32, SIMD 32-bit Unsigned Saturating Cross Subtraction & Addition (rule R472). -/
def execUkcrsa32 (rd rs1 rs2 : Reg) (s : State) : Result :=
  s.clipLanes rd 32 fun j => satu 32 (topSubtracts j (s.ul 32 rs1 j) (s.ul 32 rs2 (partner j)))

/-- STAS32, SIMD 32-bit Straight Addition & Subtraction (rule R473). -/
def execStas32 (rd rs1 rs2 : Reg) (s : State) : Result :=
  s.writeLanes rd 32 fun j => topAdds j (s.ul 32 rs1 j) (s.ul 32 rs2 j)

/-- RSTAS32, SIMD 32-bit Signed Halving Straight Addition & Subtraction (rule R474). -/
def execRstas32 (rd rs1 rs2 : Reg) (s : State) : Result :=
  s.writeLanes rd 32 fun j => halve (topAdds j (s.sl 32 rs1 j) (s.sl 32 rs2 j))

/-- URSTAS32, SIMD 32-bit Unsigned Halving Straight Addition & Subtraction (rule R475). -/
def execUrstas32 (rd rs1 rs2 : Reg) (s : State) : Result :=
  s.writeLanes rd 32 fun j => halve (topAdds j (s.ul 32 rs1 j) (s.ul 32 rs2 j))

/-- KSTAS32, SIMD 32-bit Signed Saturating Straight Addition & Subtraction (rule R476). -/
def execKstas32 (rd rs1 rs2 : Reg) (s : State) : Result :=
  s.clipLanes rd 32 fun j => satq 31 (topAdds j (s.sl 32 rs1 j) (s.sl 32 rs2 j))

/-- UKSTAS32, SIMD 32-bit Unsigned Saturating Straight Addition & Subtraction (rule R477). -/
def execUkstas32 (rd rs1 rs2 : Reg) (s : State) : Result :=
  s.clipLanes rd 32 fun j => satu 32 (topAdds j (s.ul 32 rs1 j) (s.ul 32 rs2 j))

/-- STSA32, SIMD 32-bit Straight Subtraction & Addition (rule R478). -/
def execStsa32 (rd rs1 rs2 : Reg) (s : State) : Result :=
  s.writeLanes rd 32 fun j => topSubtracts j (s.ul 32 rs1 j) (s.ul 32 rs2 j)

/-- RSTSA32, SIMD 32-bit Signed Halving Straight Subtraction & Addition (rule R479). -/
def execRstsa32 (rd rs1 rs2 : Reg) (s : State) : Result :=
  s.writeLanes rd 32 fun j => halve (topSubtracts j (s.sl 32 rs1 j) (s.sl 32 rs2 j))

/-- URSTSA32, SIMD 32-bit Unsigned Halving Straight Subtraction & Addition (rule R480). -/
def execUrstsa32 (rd rs1 rs2 : Reg) (s : State) : Result :=
  s.writeLanes rd 32 fun j => halve (topSubtracts j (s.ul 32 rs1 j) (s.ul 32 rs2 j))

/-- KSTSA32, SIMD 32-bit Signed Saturating Straight Subtraction & Addition (rule R481). -/
def execKstsa32 (rd rs1 rs2 : Reg) (s : State) : Result :=
  s.clipLanes rd 32 fun j => satq 31 (topSubtracts j (s.sl 32 rs1 j) (s.sl 32 rs2 j))

/-- UKSTSA32, SIMD 32-bit Unsigned Saturating Straight Subtraction & Addition (rule R482). -/
def execUkstsa32 (rd rs1 rs2 : Reg) (s : State) : Result :=
  s.clipLanes rd 32 fun j => satu 32 (topSubtracts j (s.ul 32 rs1 j) (s.ul 32 rs2 j))

/-- SRA32, SIMD 32-bit Shift Right Arithmetic (rule R484). -/
def execSra32 (rd rs1 rs2 : Reg) (s : State) : Result :=
  s.writeLanes rd 32 fun j => asr (s.sl 32 rs1 j) (s.low 5 rs2)

/-- SRAI32, SIMD 32-bit Shift Right Arithmetic Immediate (rule R485). -/
def execSrai32 (rd rs1 : Reg) (imm : BitVec 5) (s : State) : Result :=
  s.writeLanes rd 32 fun j => asr (s.sl 32 rs1 j) imm.toNat

/-- SRA32.u, SIMD 32-bit Rounding Shift Right Arithmetic (rule R486). -/
def execSra32U (rd rs1 rs2 : Reg) (s : State) : Result :=
  s.writeLanes rd 32 fun j => rnd (s.sl 32 rs1 j) (s.low 5 rs2)

/-- SRAI32.u, SIMD 32-bit Rounding Shift Right Arithmetic Immediate (rule R487). -/
def execSrai32U (rd rs1 : Reg) (imm : BitVec 5) (s : State) : Result :=
  s.writeLanes rd 32 fun j => rnd (s.sl 32 rs1 j) imm.toNat

/-- SRL32, SIMD 32-bit Shift Right Logical (rule R488). -/
def execSrl32 (rd rs1 rs2 : Reg) (s : State) : Result :=
  s.writeLanes rd 32 fun j => asr (s.ul 32 rs1 j) (s.low 5 rs2)

/-- SRLI32, SIMD 32-bit Shift Right Logical Immediate (rule R489). -/
def execSrli32 (rd rs1 : Reg) (imm : BitVec 5) (s : State) : Result :=
  s.writeLanes rd 32 fun j => asr (s.ul 32 rs1 j) imm.toNat

/-- SRL32.u, SIMD 32-bit Rounding Shift Right Logical (rule R490). -/
def execSrl32U (rd rs1 rs2 : Reg) (s : State) : Result :=
  s.writeLanes rd 32 fun j => rnd (s.ul 32 rs1 j) (s.low 5 rs2)

/-- SRLI32.u, SIMD 32-bit Rounding Shift Right Logical Immediate (rule R491). -/
def execSrli32U (rd rs1 : Reg) (imm : BitVec 5) (s : State) : Result :=
  s.writeLanes rd 32 fun j => rnd (s.ul 32 rs1 j) imm.toNat

/-- SLL32, SIMD 32-bit Shift Left Logical (rule R492). -/
def execSll32 (rd rs1 rs2 : Reg) (s : State) : Result :=
  s.writeLanes rd 32 fun j => shl (s.ul 32 rs1 j) (s.low 5 rs2)

/-- SLLI32, SIMD 32-bit Shift Left Logical Immediate (rule R493). -/
def execSlli32 (rd rs1 : Reg) (imm : BitVec 5) (s : State) : Result :=
  s.writeLanes rd 32 fun j => shl (s.ul 32 rs1 j) imm.toNat

/-- KSLL32, SIMD 32-bit Saturating Shift Left Logical (rule R494). -/
def execKsll32 (rd rs1 rs2 : Reg) (s : State) : Result :=
  s.clipLanes rd 32 fun j => satq 31 (shl (s.sl 32 rs1 j) (s.low 5 rs2))

/-- KSLLI32, SIMD 32-bit Saturating Shift Left Logical Immediate (rule R495). -/
def execKslli32 (rd rs1 : Reg) (imm : BitVec 5) (s : State) : Result :=
  s.clipLanes rd 32 fun j => satq 31 (shl (s.sl 32 rs1 j) imm.toNat)

/-- KSLRA32, SIMD 32-bit Shift Left Logical with Saturation or Shift Right Arithmetic (rule R496). -/
def execKslra32 (rd rs1 rs2 : Reg) (s : State) : Result :=
  s.clipLanes rd 32 fun j => shiftLR 32 asr (s.sl 32 rs1 j) (s.slow 6 rs2)

/-- KSLRA32.u, SIMD 32-bit Shift Left Logical with Saturation or Rounding Shift Right Arithmetic (rule R497). -/
def execKslra32U (rd rs1 rs2 : Reg) (s : State) : Result :=
  s.clipLanes rd 32 fun j => shiftLR 32 rnd (s.sl 32 rs1 j) (s.slow 6 rs2)

end Sys2Proof.Machine
end

