-- ==== Sys2Proof/Machine/Rv64MiscMul.lean ====
section
/-!
DEFINITION. The meanings of one family: The RV64-only 32-bit miscellaneous and multiply instructions (49_rv64_misc_mul.md).
-/

namespace Sys2Proof.Machine

/-- SMIN32, SIMD 32-bit Signed Minimum (rule R503). -/
def execSmin32 (rd rs1 rs2 : Reg) (s : State) : Result :=
  s.writeLanes rd 32 fun j => min (s.sl 32 rs1 j) (s.sl 32 rs2 j)

/-- UMIN32, SIMD 32-bit Unsigned Minimum (rule R504). -/
def execUmin32 (rd rs1 rs2 : Reg) (s : State) : Result :=
  s.writeLanes rd 32 fun j => min (s.ul 32 rs1 j) (s.ul 32 rs2 j)

/-- SMAX32, SIMD 32-bit Signed Maximum (rule R505). -/
def execSmax32 (rd rs1 rs2 : Reg) (s : State) : Result :=
  s.writeLanes rd 32 fun j => max (s.sl 32 rs1 j) (s.sl 32 rs2 j)

/-- UMAX32, SIMD 32-bit Unsigned Maximum (rule R506). -/
def execUmax32 (rd rs1 rs2 : Reg) (s : State) : Result :=
  s.writeLanes rd 32 fun j => max (s.ul 32 rs1 j) (s.ul 32 rs2 j)

/-- KABS32, SIMD 32-bit Saturating Absolute (rule R507). -/
def execKabs32 (rd rs1 : Reg) (s : State) : Result :=
  s.clipLanes rd 32 fun j => satq 31 (iabs (s.sl 32 rs1 j))

/-- KHMBB16, SIMD Signed Saturating Half Multiply B16 x B16 (rule R509). -/
def execKhmbb16 (rd rs1 rs2 : Reg) (s : State) : Result :=
  s.clipLanes rd 32 fun j => satq 15 (asr (s.bot rs1 j * s.bot rs2 j) 15)

/-- KHMBT16, SIMD Signed Saturating Half Multiply B16 x T16 (rule R510). -/
def execKhmbt16 (rd rs1 rs2 : Reg) (s : State) : Result :=
  s.clipLanes rd 32 fun j => satq 15 (asr (s.bot rs1 j * s.top rs2 j) 15)

/-- KHMTT16, SIMD Signed Saturating Half Multiply T16 x T16 (rule R511). -/
def execKhmtt16 (rd rs1 rs2 : Reg) (s : State) : Result :=
  s.clipLanes rd 32 fun j => satq 15 (asr (s.top rs1 j * s.top rs2 j) 15)

/-- KDMBB16, SIMD Signed Saturating Double Multiply B16 x B16 (rule R512). -/
def execKdmbb16 (rd rs1 rs2 : Reg) (s : State) : Result :=
  s.clipLanes rd 32 fun j => satq 31 (shl (s.bot rs1 j * s.bot rs2 j) 1)

/-- KDMBT16, SIMD Signed Saturating Double Multiply B16 x T16 (rule R513). -/
def execKdmbt16 (rd rs1 rs2 : Reg) (s : State) : Result :=
  s.clipLanes rd 32 fun j => satq 31 (shl (s.bot rs1 j * s.top rs2 j) 1)

/-- KDMTT16, SIMD Signed Saturating Double Multiply T16 x T16 (rule R514). -/
def execKdmtt16 (rd rs1 rs2 : Reg) (s : State) : Result :=
  s.clipLanes rd 32 fun j => satq 31 (shl (s.top rs1 j * s.top rs2 j) 1)

/-- KDMABB16, SIMD Signed Saturating Double Multiply Addition B16 x B16 (rule R515). -/
def execKdmabb16 (rd rs1 rs2 : Reg) (s : State) : Result :=
  s.clipLanes rd 32 fun j =>
    (satq 31 (shl (s.bot rs1 j * s.bot rs2 j) 1)).andThen fun m => satq 31 (s.sl 32 rd j + m)

/-- KDMABT16, SIMD Signed Saturating Double Multiply Addition B16 x T16 (rule R516). -/
def execKdmabt16 (rd rs1 rs2 : Reg) (s : State) : Result :=
  s.clipLanes rd 32 fun j =>
    (satq 31 (shl (s.bot rs1 j * s.top rs2 j) 1)).andThen fun m => satq 31 (s.sl 32 rd j + m)

/-- KDMATT16, SIMD Signed Saturating Double Multiply Addition T16 x T16 (rule R517). -/
def execKdmatt16 (rd rs1 rs2 : Reg) (s : State) : Result :=
  s.clipLanes rd 32 fun j =>
    (satq 31 (shl (s.top rs1 j * s.top rs2 j) 1)).andThen fun m => satq 31 (s.sl 32 rd j + m)

/-- SMBB32, Signed Multiply Bottom Word & Bottom Word (rule R520). -/
def execSmbb32 (rd rs1 rs2 : Reg) (s : State) : Result :=
  s.writeX rd (s.sl 32 rs1 0 * s.sl 32 rs2 0)

/-- SMBT32, Signed Multiply Bottom Word & Top Word (rule R521). -/
def execSmbt32 (rd rs1 rs2 : Reg) (s : State) : Result :=
  s.writeX rd (s.sl 32 rs1 0 * s.sl 32 rs2 1)

/-- SMTT32, Signed Multiply Top Word & Top Word (rule R522). -/
def execSmtt32 (rd rs1 rs2 : Reg) (s : State) : Result :=
  s.writeX rd (s.sl 32 rs1 1 * s.sl 32 rs2 1)

/-- KMABB32, Saturating Signed Multiply Bottom Words & Add (rule R523). -/
def execKmabb32 (rd rs1 rs2 : Reg) (s : State) : Result :=
  s.clipX rd (satq 63 (s.sx rd + s.sl 32 rs1 0 * s.sl 32 rs2 0))

/-- KMABT32, Saturating Signed Multiply Bottom & Top Words & Add (rule R524). -/
def execKmabt32 (rd rs1 rs2 : Reg) (s : State) : Result :=
  s.clipX rd (satq 63 (s.sx rd + s.sl 32 rs1 0 * s.sl 32 rs2 1))

/-- KMATT32, Saturating Signed Multiply Top Words & Add (rule R525). -/
def execKmatt32 (rd rs1 rs2 : Reg) (s : State) : Result :=
  s.clipX rd (satq 63 (s.sx rd + s.sl 32 rs1 1 * s.sl 32 rs2 1))

/-- KMDA32, Signed Multiply Two Words and Add (rule R526). -/
def execKmda32 (rd rs1 rs2 : Reg) (s : State) : Result :=
  s.clipX rd (satq 63 (s.sl 32 rs1 1 * s.sl 32 rs2 1 + s.sl 32 rs1 0 * s.sl 32 rs2 0))

/-- KMXDA32, Signed Crossed Multiply Two Words and Add (rule R527). -/
def execKmxda32 (rd rs1 rs2 : Reg) (s : State) : Result :=
  s.clipX rd (satq 63 (s.sl 32 rs1 1 * s.sl 32 rs2 0 + s.sl 32 rs1 0 * s.sl 32 rs2 1))

/-- KMADA32, Saturating Signed Multiply Two Words and Two Adds (rule R528). -/
def execKmada32 (rd rs1 rs2 : Reg) (s : State) : Result :=
  s.clipX rd
    (satq 63 (s.sx rd + s.sl 32 rs1 1 * s.sl 32 rs2 1 + s.sl 32 rs1 0 * s.sl 32 rs2 0))

/-- KMAXDA32, Saturating Signed Crossed Multiply Two Words and Two Adds (rule R529). -/
def execKmaxda32 (rd rs1 rs2 : Reg) (s : State) : Result :=
  s.clipX rd
    (satq 63 (s.sx rd + s.sl 32 rs1 1 * s.sl 32 rs2 0 + s.sl 32 rs1 0 * s.sl 32 rs2 1))

/-- KMADS32, Saturating Signed Multiply Two Words & Subtract & Add (rule R530). -/
def execKmads32 (rd rs1 rs2 : Reg) (s : State) : Result :=
  s.clipX rd
    (satq 63 (s.sx rd + s.sl 32 rs1 1 * s.sl 32 rs2 1 - s.sl 32 rs1 0 * s.sl 32 rs2 0))

/-- KMADRS32, Saturating Signed Multiply Two Words & Reverse Subtract & Add (rule R531). -/
def execKmadrs32 (rd rs1 rs2 : Reg) (s : State) : Result :=
  s.clipX rd
    (satq 63 (s.sx rd + s.sl 32 rs1 0 * s.sl 32 rs2 0 - s.sl 32 rs1 1 * s.sl 32 rs2 1))

/-- KMAXDS32, Saturating Signed Crossed Multiply Two Words & Subtract & Add (rule R532). -/
def execKmaxds32 (rd rs1 rs2 : Reg) (s : State) : Result :=
  s.clipX rd
    (satq 63 (s.sx rd + s.sl 32 rs1 1 * s.sl 32 rs2 0 - s.sl 32 rs1 0 * s.sl 32 rs2 1))

/-- KMSDA32, Saturating Signed Multiply Two Words & Add & Subtract (rule R533). -/
def execKmsda32 (rd rs1 rs2 : Reg) (s : State) : Result :=
  s.clipX rd
    (satq 63 (s.sx rd - s.sl 32 rs1 1 * s.sl 32 rs2 1 - s.sl 32 rs1 0 * s.sl 32 rs2 0))

/-- KMSXDA32, Saturating Signed Crossed Multiply Two Words & Add & Subtract (rule R534). -/
def execKmsxda32 (rd rs1 rs2 : Reg) (s : State) : Result :=
  s.clipX rd
    (satq 63 (s.sx rd - s.sl 32 rs1 1 * s.sl 32 rs2 0 - s.sl 32 rs1 0 * s.sl 32 rs2 1))

/-- SMDS32, Signed Multiply Two Words and Subtract (rule R535). -/
def execSmds32 (rd rs1 rs2 : Reg) (s : State) : Result :=
  s.writeX rd (s.sl 32 rs1 1 * s.sl 32 rs2 1 - s.sl 32 rs1 0 * s.sl 32 rs2 0)

/-- SMDRS32, Signed Multiply Two Words and Reverse Subtract (rule R536). -/
def execSmdrs32 (rd rs1 rs2 : Reg) (s : State) : Result :=
  s.writeX rd (s.sl 32 rs1 0 * s.sl 32 rs2 0 - s.sl 32 rs1 1 * s.sl 32 rs2 1)

/-- SMXDS32, Signed Crossed Multiply Two Words and Subtract (rule R537). -/
def execSmxds32 (rd rs1 rs2 : Reg) (s : State) : Result :=
  s.writeX rd (s.sl 32 rs1 1 * s.sl 32 rs2 0 - s.sl 32 rs1 0 * s.sl 32 rs2 1)

/-- SRAIW.u, Rounding Shift Right Arithmetic Immediate Word (rule R539). -/
def execSraiwU (rd rs1 : Reg) (imm : BitVec 5) (s : State) : Result :=
  s.writeW rd (rnd (s.sl 32 rs1 0) imm.toNat)

/-- PKBB32, Pack Two 32-bit Data from Both Bottom Half (rule R541). -/
def execPkbb32 (rd rs1 rs2 : Reg) (s : State) : Result :=
  s.writeX rd (join 32 (s.ul 32 rs1 0) (s.ul 32 rs2 0))

/-- PKBT32, Pack Two 32-bit Data from Bottom and Top Half (rule R542). -/
def execPkbt32 (rd rs1 rs2 : Reg) (s : State) : Result :=
  s.writeX rd (join 32 (s.ul 32 rs1 0) (s.ul 32 rs2 1))

/-- PKTB32, Pack Two 32-bit Data from Top and Bottom Half (rule R543). -/
def execPktb32 (rd rs1 rs2 : Reg) (s : State) : Result :=
  s.writeX rd (join 32 (s.ul 32 rs1 1) (s.ul 32 rs2 0))

/-- PKTT32, Pack Two 32-bit Data from Both Top Half (rule R544). -/
def execPktt32 (rd rs1 rs2 : Reg) (s : State) : Result :=
  s.writeX rd (join 32 (s.ul 32 rs1 1) (s.ul 32 rs2 1))

end Sys2Proof.Machine
end

