-- ==== Sys2Proof/Machine/Zbpbo.lean ====
section
/-!
DEFINITION. The meanings of one family: Zbpbo and the removed instructions (40_zbpbo.md).
-/

namespace Sys2Proof.Machine

/-- CLZ, Count Leading Zero (rule R101). -/
def execClz (rd rs1 : Reg) (s : State) : Result :=
  s.writeX rd (clzOf ((s.x rs1).setWidth 32))

/-- CMIX, Conditional Mix or Bit-wise Pick (rule R102). -/
def execCmix (rd rs1 rs2 rs3 : Reg) (s : State) : Result :=
  s.writeBits rd ((s.x rs1 &&& s.x rs2) ||| (s.x rs3 &&& ~~~s.x rs2))

/-- FSR, Funnel Shift Right / Extract Word from 64-bit (rule R103). -/
def execFsr (rd rs1 rs2 rs3 : Reg) (s : State) : Result :=
  s.writeBits rd
    ((funnel ((s.x rs3).setWidth 32) ((s.x rs1).setWidth 32) (s.low 6 rs2)).signExtend 64)

/-- FSRI, Funnel Shift Right Immediate / Extract Word from 64-bit Immediate (rule R104). -/
def execFsri (rd rs1 rs3 : Reg) (imm : BitVec 6) (s : State) : Result :=
  s.writeBits rd
    ((funnel ((s.x rs3).setWidth 32) ((s.x rs1).setWidth 32) imm.toNat).signExtend 64)

/-- FSRW, Funnel Shift Right Word (rule R106). -/
def execFsrw (rd rs1 rs2 rs3 : Reg) (s : State) : Result :=
  s.writeBits rd
    ((funnel ((s.x rs3).setWidth 32) ((s.x rs1).setWidth 32) (s.low 6 rs2)).signExtend 64)

/-- MAX, Maximum (rule R107). -/
def execMax (rd rs1 rs2 : Reg) (s : State) : Result :=
  s.writeX rd (if s.sx rs1 ≥ s.sx rs2 then s.sx rs1 else s.sx rs2)

/-- MIN, Minimum (rule R108). -/
def execMin (rd rs1 rs2 : Reg) (s : State) : Result :=
  s.writeX rd (if s.sx rs1 ≥ s.sx rs2 then s.sx rs2 else s.sx rs1)

/-- PACK, Pack from Both Bottom Halves (rule R109). -/
def execPack (rd rs1 rs2 : Reg) (s : State) : Result :=
  s.writeLanes rd (s.xlen / 2) fun j => s.ul (s.xlen / 2) (if j = 0 then rs1 else rs2) 0

/-- PACKU, Pack from Both Top Halves (rule R110). -/
def execPacku (rd rs1 rs2 : Reg) (s : State) : Result :=
  s.writeLanes rd (s.xlen / 2) fun j => s.ul (s.xlen / 2) (if j = 0 then rs1 else rs2) 1

/-- REV, Bit Reverse XLEN bits (rule R112, the RV32 form). -/
def execRevRv32 (rd rs1 : Reg) (s : State) : Result :=
  s.writeBits rd (bitReverse 31 (s.x rs1))

/-- REV, Bit Reverse XLEN bits (rule R112, the RV64 form). -/
def execRevRv64 (rd rs1 : Reg) (s : State) : Result :=
  s.writeBits rd (bitReverse 63 (s.x rs1))

/-- REV8.H, Swap Byte within Halfword (rule R113). -/
def execRev8H (rd rs1 : Reg) (s : State) : Result :=
  s.writeLanes rd 8 fun j => s.ul 8 rs1 (partner j)

/-- BPICK, Bit-wise Pick (rule R115, removed (R114): its words are illegal). -/
def execBpick (_rd _rs1 _rs2 _rc : Reg) (s : State) : Result :=
  s.illegal

/-- MAXW, 32-bit Signed Word Maximum (rule R116, removed (R114): its words are illegal). -/
def execMaxw (_rd _rs1 _rs2 : Reg) (s : State) : Result :=
  s.illegal

/-- MINW, 32-bit Signed Word Minimum (rule R117, removed (R114): its words are illegal). -/
def execMinw (_rd _rs1 _rs2 : Reg) (s : State) : Result :=
  s.illegal

end Sys2Proof.Machine
end

