-- ==== Sys2Proof/Machine/Dispatch.lean ====
section
/-!
DEFINITION. The meaning of each instruction, one arm for each constructor of Instr.
-/

namespace Sys2Proof.Machine

open Sys2Proof

/-- What an instruction does in a state: the next state, or the exception it raises. -/
def exec (i : Instr) (s : State) : Host.Outcome State Fault Refusal :=
  match i with
  | .rdov rd => Sys2Proof.Machine.execRdov rd s
  | .clrov => Sys2Proof.Machine.execClrov s
  | .csrrw rd rs1 => Sys2Proof.Machine.execCsrrw rd rs1 s
  | .csrrs rd rs1 => Sys2Proof.Machine.execCsrrs rd rs1 s
  | .csrrc rd rs1 => Sys2Proof.Machine.execCsrrc rd rs1 s
  | .csrrwi rd uimm => Sys2Proof.Machine.execCsrrwi rd uimm s
  | .csrrsi rd uimm => Sys2Proof.Machine.execCsrrsi rd uimm s
  | .csrrci rd uimm => Sys2Proof.Machine.execCsrrci rd uimm s
  | .lw rd rs1 imm => Sys2Proof.Machine.execLw rd rs1 imm s
  | .sw rs2 rs1 imm => Sys2Proof.Machine.execSw rs2 rs1 imm s
  | .ld rd rs1 imm => Sys2Proof.Machine.execLd rd rs1 imm s
  | .sd rs2 rs1 imm => Sys2Proof.Machine.execSd rs2 rs1 imm s
  | .addi rd rs1 imm => Sys2Proof.Machine.execAddi rd rs1 imm s
  | .lui rd imm => Sys2Proof.Machine.execLui rd imm s
  | .bne rs1 rs2 offset => Sys2Proof.Machine.execBne rs1 rs2 offset s
  | .clz rd rs1 => Sys2Proof.Machine.execClz rd rs1 s
  | .cmix rd rs1 rs2 rs3 => Sys2Proof.Machine.execCmix rd rs1 rs2 rs3 s
  | .fsr rd rs1 rs2 rs3 => Sys2Proof.Machine.execFsr rd rs1 rs2 rs3 s
  | .fsri rd rs1 rs3 imm => Sys2Proof.Machine.execFsri rd rs1 rs3 imm s
  | .fsrw rd rs1 rs2 rs3 => Sys2Proof.Machine.execFsrw rd rs1 rs2 rs3 s
  | .max rd rs1 rs2 => Sys2Proof.Machine.execMax rd rs1 rs2 s
  | .min rd rs1 rs2 => Sys2Proof.Machine.execMin rd rs1 rs2 s
  | .pack rd rs1 rs2 => Sys2Proof.Machine.execPack rd rs1 rs2 s
  | .packu rd rs1 rs2 => Sys2Proof.Machine.execPacku rd rs1 rs2 s
  | .revRv32 rd rs1 => Sys2Proof.Machine.execRevRv32 rd rs1 s
  | .revRv64 rd rs1 => Sys2Proof.Machine.execRevRv64 rd rs1 s
  | .rev8H rd rs1 => Sys2Proof.Machine.execRev8H rd rs1 s
  | .bpick rd rs1 rs2 rc => Sys2Proof.Machine.execBpick rd rs1 rs2 rc s
  | .maxw rd rs1 rs2 => Sys2Proof.Machine.execMaxw rd rs1 rs2 s
  | .minw rd rs1 rs2 => Sys2Proof.Machine.execMinw rd rs1 rs2 s
  | .add16 rd rs1 rs2 => Sys2Proof.Machine.execAdd16 rd rs1 rs2 s
  | .radd16 rd rs1 rs2 => Sys2Proof.Machine.execRadd16 rd rs1 rs2 s
  | .uradd16 rd rs1 rs2 => Sys2Proof.Machine.execUradd16 rd rs1 rs2 s
  | .kadd16 rd rs1 rs2 => Sys2Proof.Machine.execKadd16 rd rs1 rs2 s
  | .ukadd16 rd rs1 rs2 => Sys2Proof.Machine.execUkadd16 rd rs1 rs2 s
  | .sub16 rd rs1 rs2 => Sys2Proof.Machine.execSub16 rd rs1 rs2 s
  | .rsub16 rd rs1 rs2 => Sys2Proof.Machine.execRsub16 rd rs1 rs2 s
  | .ursub16 rd rs1 rs2 => Sys2Proof.Machine.execUrsub16 rd rs1 rs2 s
  | .ksub16 rd rs1 rs2 => Sys2Proof.Machine.execKsub16 rd rs1 rs2 s
  | .uksub16 rd rs1 rs2 => Sys2Proof.Machine.execUksub16 rd rs1 rs2 s
  | .cras16 rd rs1 rs2 => Sys2Proof.Machine.execCras16 rd rs1 rs2 s
  | .rcras16 rd rs1 rs2 => Sys2Proof.Machine.execRcras16 rd rs1 rs2 s
  | .urcras16 rd rs1 rs2 => Sys2Proof.Machine.execUrcras16 rd rs1 rs2 s
  | .kcras16 rd rs1 rs2 => Sys2Proof.Machine.execKcras16 rd rs1 rs2 s
  | .ukcras16 rd rs1 rs2 => Sys2Proof.Machine.execUkcras16 rd rs1 rs2 s
  | .crsa16 rd rs1 rs2 => Sys2Proof.Machine.execCrsa16 rd rs1 rs2 s
  | .rcrsa16 rd rs1 rs2 => Sys2Proof.Machine.execRcrsa16 rd rs1 rs2 s
  | .urcrsa16 rd rs1 rs2 => Sys2Proof.Machine.execUrcrsa16 rd rs1 rs2 s
  | .kcrsa16 rd rs1 rs2 => Sys2Proof.Machine.execKcrsa16 rd rs1 rs2 s
  | .ukcrsa16 rd rs1 rs2 => Sys2Proof.Machine.execUkcrsa16 rd rs1 rs2 s
  | .stas16 rd rs1 rs2 => Sys2Proof.Machine.execStas16 rd rs1 rs2 s
  | .rstas16 rd rs1 rs2 => Sys2Proof.Machine.execRstas16 rd rs1 rs2 s
  | .urstas16 rd rs1 rs2 => Sys2Proof.Machine.execUrstas16 rd rs1 rs2 s
  | .kstas16 rd rs1 rs2 => Sys2Proof.Machine.execKstas16 rd rs1 rs2 s
  | .ukstas16 rd rs1 rs2 => Sys2Proof.Machine.execUkstas16 rd rs1 rs2 s
  | .stsa16 rd rs1 rs2 => Sys2Proof.Machine.execStsa16 rd rs1 rs2 s
  | .rstsa16 rd rs1 rs2 => Sys2Proof.Machine.execRstsa16 rd rs1 rs2 s
  | .urstsa16 rd rs1 rs2 => Sys2Proof.Machine.execUrstsa16 rd rs1 rs2 s
  | .kstsa16 rd rs1 rs2 => Sys2Proof.Machine.execKstsa16 rd rs1 rs2 s
  | .ukstsa16 rd rs1 rs2 => Sys2Proof.Machine.execUkstsa16 rd rs1 rs2 s
  | .add8 rd rs1 rs2 => Sys2Proof.Machine.execAdd8 rd rs1 rs2 s
  | .radd8 rd rs1 rs2 => Sys2Proof.Machine.execRadd8 rd rs1 rs2 s
  | .uradd8 rd rs1 rs2 => Sys2Proof.Machine.execUradd8 rd rs1 rs2 s
  | .kadd8 rd rs1 rs2 => Sys2Proof.Machine.execKadd8 rd rs1 rs2 s
  | .ukadd8 rd rs1 rs2 => Sys2Proof.Machine.execUkadd8 rd rs1 rs2 s
  | .sub8 rd rs1 rs2 => Sys2Proof.Machine.execSub8 rd rs1 rs2 s
  | .rsub8 rd rs1 rs2 => Sys2Proof.Machine.execRsub8 rd rs1 rs2 s
  | .ursub8 rd rs1 rs2 => Sys2Proof.Machine.execUrsub8 rd rs1 rs2 s
  | .ksub8 rd rs1 rs2 => Sys2Proof.Machine.execKsub8 rd rs1 rs2 s
  | .uksub8 rd rs1 rs2 => Sys2Proof.Machine.execUksub8 rd rs1 rs2 s
  | .sra16 rd rs1 rs2 => Sys2Proof.Machine.execSra16 rd rs1 rs2 s
  | .srai16 rd rs1 imm => Sys2Proof.Machine.execSrai16 rd rs1 imm s
  | .sra16U rd rs1 rs2 => Sys2Proof.Machine.execSra16U rd rs1 rs2 s
  | .srai16U rd rs1 imm => Sys2Proof.Machine.execSrai16U rd rs1 imm s
  | .srl16 rd rs1 rs2 => Sys2Proof.Machine.execSrl16 rd rs1 rs2 s
  | .srli16 rd rs1 imm => Sys2Proof.Machine.execSrli16 rd rs1 imm s
  | .srl16U rd rs1 rs2 => Sys2Proof.Machine.execSrl16U rd rs1 rs2 s
  | .srli16U rd rs1 imm => Sys2Proof.Machine.execSrli16U rd rs1 imm s
  | .sll16 rd rs1 rs2 => Sys2Proof.Machine.execSll16 rd rs1 rs2 s
  | .slli16 rd rs1 imm => Sys2Proof.Machine.execSlli16 rd rs1 imm s
  | .ksll16 rd rs1 rs2 => Sys2Proof.Machine.execKsll16 rd rs1 rs2 s
  | .kslli16 rd rs1 imm => Sys2Proof.Machine.execKslli16 rd rs1 imm s
  | .kslra16 rd rs1 rs2 => Sys2Proof.Machine.execKslra16 rd rs1 rs2 s
  | .kslra16U rd rs1 rs2 => Sys2Proof.Machine.execKslra16U rd rs1 rs2 s
  | .sra8 rd rs1 rs2 => Sys2Proof.Machine.execSra8 rd rs1 rs2 s
  | .srai8 rd rs1 imm => Sys2Proof.Machine.execSrai8 rd rs1 imm s
  | .sra8U rd rs1 rs2 => Sys2Proof.Machine.execSra8U rd rs1 rs2 s
  | .srai8U rd rs1 imm => Sys2Proof.Machine.execSrai8U rd rs1 imm s
  | .srl8 rd rs1 rs2 => Sys2Proof.Machine.execSrl8 rd rs1 rs2 s
  | .srli8 rd rs1 imm => Sys2Proof.Machine.execSrli8 rd rs1 imm s
  | .srl8U rd rs1 rs2 => Sys2Proof.Machine.execSrl8U rd rs1 rs2 s
  | .srli8U rd rs1 imm => Sys2Proof.Machine.execSrli8U rd rs1 imm s
  | .sll8 rd rs1 rs2 => Sys2Proof.Machine.execSll8 rd rs1 rs2 s
  | .slli8 rd rs1 imm => Sys2Proof.Machine.execSlli8 rd rs1 imm s
  | .ksll8 rd rs1 rs2 => Sys2Proof.Machine.execKsll8 rd rs1 rs2 s
  | .kslli8 rd rs1 imm => Sys2Proof.Machine.execKslli8 rd rs1 imm s
  | .kslra8 rd rs1 rs2 => Sys2Proof.Machine.execKslra8 rd rs1 rs2 s
  | .kslra8U rd rs1 rs2 => Sys2Proof.Machine.execKslra8U rd rs1 rs2 s
  | .cmpeq16 rd rs1 rs2 => Sys2Proof.Machine.execCmpeq16 rd rs1 rs2 s
  | .scmplt16 rd rs1 rs2 => Sys2Proof.Machine.execScmplt16 rd rs1 rs2 s
  | .scmple16 rd rs1 rs2 => Sys2Proof.Machine.execScmple16 rd rs1 rs2 s
  | .ucmplt16 rd rs1 rs2 => Sys2Proof.Machine.execUcmplt16 rd rs1 rs2 s
  | .ucmple16 rd rs1 rs2 => Sys2Proof.Machine.execUcmple16 rd rs1 rs2 s
  | .cmpeq8 rd rs1 rs2 => Sys2Proof.Machine.execCmpeq8 rd rs1 rs2 s
  | .scmplt8 rd rs1 rs2 => Sys2Proof.Machine.execScmplt8 rd rs1 rs2 s
  | .scmple8 rd rs1 rs2 => Sys2Proof.Machine.execScmple8 rd rs1 rs2 s
  | .ucmplt8 rd rs1 rs2 => Sys2Proof.Machine.execUcmplt8 rd rs1 rs2 s
  | .ucmple8 rd rs1 rs2 => Sys2Proof.Machine.execUcmple8 rd rs1 rs2 s
  | .smin16 rd rs1 rs2 => Sys2Proof.Machine.execSmin16 rd rs1 rs2 s
  | .umin16 rd rs1 rs2 => Sys2Proof.Machine.execUmin16 rd rs1 rs2 s
  | .smax16 rd rs1 rs2 => Sys2Proof.Machine.execSmax16 rd rs1 rs2 s
  | .umax16 rd rs1 rs2 => Sys2Proof.Machine.execUmax16 rd rs1 rs2 s
  | .sclip16 rd rs1 imm => Sys2Proof.Machine.execSclip16 rd rs1 imm s
  | .uclip16 rd rs1 imm => Sys2Proof.Machine.execUclip16 rd rs1 imm s
  | .kabs16 rd rs1 => Sys2Proof.Machine.execKabs16 rd rs1 s
  | .clrs16 rd rs1 => Sys2Proof.Machine.execClrs16 rd rs1 s
  | .clz16 rd rs1 => Sys2Proof.Machine.execClz16 rd rs1 s
  | .swap16 rd rs1 => Sys2Proof.Machine.execSwap16 rd rs1 s
  | .smin8 rd rs1 rs2 => Sys2Proof.Machine.execSmin8 rd rs1 rs2 s
  | .umin8 rd rs1 rs2 => Sys2Proof.Machine.execUmin8 rd rs1 rs2 s
  | .smax8 rd rs1 rs2 => Sys2Proof.Machine.execSmax8 rd rs1 rs2 s
  | .umax8 rd rs1 rs2 => Sys2Proof.Machine.execUmax8 rd rs1 rs2 s
  | .kabs8 rd rs1 => Sys2Proof.Machine.execKabs8 rd rs1 s
  | .sclip8 rd rs1 imm => Sys2Proof.Machine.execSclip8 rd rs1 imm s
  | .uclip8 rd rs1 imm => Sys2Proof.Machine.execUclip8 rd rs1 imm s
  | .clrs8 rd rs1 => Sys2Proof.Machine.execClrs8 rd rs1 s
  | .clz8 rd rs1 => Sys2Proof.Machine.execClz8 rd rs1 s
  | .swap8 rd rs1 => Sys2Proof.Machine.execSwap8 rd rs1 s
  | .sunpkd810 rd rs1 => Sys2Proof.Machine.execSunpkd810 rd rs1 s
  | .sunpkd820 rd rs1 => Sys2Proof.Machine.execSunpkd820 rd rs1 s
  | .sunpkd830 rd rs1 => Sys2Proof.Machine.execSunpkd830 rd rs1 s
  | .sunpkd831 rd rs1 => Sys2Proof.Machine.execSunpkd831 rd rs1 s
  | .sunpkd832 rd rs1 => Sys2Proof.Machine.execSunpkd832 rd rs1 s
  | .zunpkd810 rd rs1 => Sys2Proof.Machine.execZunpkd810 rd rs1 s
  | .zunpkd820 rd rs1 => Sys2Proof.Machine.execZunpkd820 rd rs1 s
  | .zunpkd830 rd rs1 => Sys2Proof.Machine.execZunpkd830 rd rs1 s
  | .zunpkd831 rd rs1 => Sys2Proof.Machine.execZunpkd831 rd rs1 s
  | .zunpkd832 rd rs1 => Sys2Proof.Machine.execZunpkd832 rd rs1 s
  | .smul16 rd rs1 rs2 => Sys2Proof.Machine.execSmul16 rd rs1 rs2 s
  | .smulx16 rd rs1 rs2 => Sys2Proof.Machine.execSmulx16 rd rs1 rs2 s
  | .umul16 rd rs1 rs2 => Sys2Proof.Machine.execUmul16 rd rs1 rs2 s
  | .umulx16 rd rs1 rs2 => Sys2Proof.Machine.execUmulx16 rd rs1 rs2 s
  | .khm16 rd rs1 rs2 => Sys2Proof.Machine.execKhm16 rd rs1 rs2 s
  | .khmx16 rd rs1 rs2 => Sys2Proof.Machine.execKhmx16 rd rs1 rs2 s
  | .smul8 rd rs1 rs2 => Sys2Proof.Machine.execSmul8 rd rs1 rs2 s
  | .smulx8 rd rs1 rs2 => Sys2Proof.Machine.execSmulx8 rd rs1 rs2 s
  | .umul8 rd rs1 rs2 => Sys2Proof.Machine.execUmul8 rd rs1 rs2 s
  | .umulx8 rd rs1 rs2 => Sys2Proof.Machine.execUmulx8 rd rs1 rs2 s
  | .khm8 rd rs1 rs2 => Sys2Proof.Machine.execKhm8 rd rs1 rs2 s
  | .khmx8 rd rs1 rs2 => Sys2Proof.Machine.execKhmx8 rd rs1 rs2 s
  | .pkbb16 rd rs1 rs2 => Sys2Proof.Machine.execPkbb16 rd rs1 rs2 s
  | .pkbt16 rd rs1 rs2 => Sys2Proof.Machine.execPkbt16 rd rs1 rs2 s
  | .pktt16 rd rs1 rs2 => Sys2Proof.Machine.execPktt16 rd rs1 rs2 s
  | .pktb16 rd rs1 rs2 => Sys2Proof.Machine.execPktb16 rd rs1 rs2 s
  | .smmul rd rs1 rs2 => Sys2Proof.Machine.execSmmul rd rs1 rs2 s
  | .smmulRv32 rd rs1 rs2 => Sys2Proof.Machine.execSmmulRv32 rd rs1 rs2 s
  | .smmulU rd rs1 rs2 => Sys2Proof.Machine.execSmmulU rd rs1 rs2 s
  | .kmmac rd rs1 rs2 => Sys2Proof.Machine.execKmmac rd rs1 rs2 s
  | .kmmacU rd rs1 rs2 => Sys2Proof.Machine.execKmmacU rd rs1 rs2 s
  | .kmmsb rd rs1 rs2 => Sys2Proof.Machine.execKmmsb rd rs1 rs2 s
  | .kmmsbU rd rs1 rs2 => Sys2Proof.Machine.execKmmsbU rd rs1 rs2 s
  | .kwmmul rd rs1 rs2 => Sys2Proof.Machine.execKwmmul rd rs1 rs2 s
  | .kwmmulU rd rs1 rs2 => Sys2Proof.Machine.execKwmmulU rd rs1 rs2 s
  | .smmwb rd rs1 rs2 => Sys2Proof.Machine.execSmmwb rd rs1 rs2 s
  | .smmwbU rd rs1 rs2 => Sys2Proof.Machine.execSmmwbU rd rs1 rs2 s
  | .smmwt rd rs1 rs2 => Sys2Proof.Machine.execSmmwt rd rs1 rs2 s
  | .smmwtU rd rs1 rs2 => Sys2Proof.Machine.execSmmwtU rd rs1 rs2 s
  | .kmmawb rd rs1 rs2 => Sys2Proof.Machine.execKmmawb rd rs1 rs2 s
  | .kmmawbU rd rs1 rs2 => Sys2Proof.Machine.execKmmawbU rd rs1 rs2 s
  | .kmmawt rd rs1 rs2 => Sys2Proof.Machine.execKmmawt rd rs1 rs2 s
  | .kmmawtU rd rs1 rs2 => Sys2Proof.Machine.execKmmawtU rd rs1 rs2 s
  | .kmmwb2 rd rs1 rs2 => Sys2Proof.Machine.execKmmwb2 rd rs1 rs2 s
  | .kmmwb2U rd rs1 rs2 => Sys2Proof.Machine.execKmmwb2U rd rs1 rs2 s
  | .kmmwt2 rd rs1 rs2 => Sys2Proof.Machine.execKmmwt2 rd rs1 rs2 s
  | .kmmwt2U rd rs1 rs2 => Sys2Proof.Machine.execKmmwt2U rd rs1 rs2 s
  | .kmmawb2 rd rs1 rs2 => Sys2Proof.Machine.execKmmawb2 rd rs1 rs2 s
  | .kmmawb2U rd rs1 rs2 => Sys2Proof.Machine.execKmmawb2U rd rs1 rs2 s
  | .kmmawt2 rd rs1 rs2 => Sys2Proof.Machine.execKmmawt2 rd rs1 rs2 s
  | .kmmawt2U rd rs1 rs2 => Sys2Proof.Machine.execKmmawt2U rd rs1 rs2 s
  | .smbb16 rd rs1 rs2 => Sys2Proof.Machine.execSmbb16 rd rs1 rs2 s
  | .smbt16 rd rs1 rs2 => Sys2Proof.Machine.execSmbt16 rd rs1 rs2 s
  | .smtt16 rd rs1 rs2 => Sys2Proof.Machine.execSmtt16 rd rs1 rs2 s
  | .kmda rd rs1 rs2 => Sys2Proof.Machine.execKmda rd rs1 rs2 s
  | .kmxda rd rs1 rs2 => Sys2Proof.Machine.execKmxda rd rs1 rs2 s
  | .smds rd rs1 rs2 => Sys2Proof.Machine.execSmds rd rs1 rs2 s
  | .smdrs rd rs1 rs2 => Sys2Proof.Machine.execSmdrs rd rs1 rs2 s
  | .smxds rd rs1 rs2 => Sys2Proof.Machine.execSmxds rd rs1 rs2 s
  | .kmabb rd rs1 rs2 => Sys2Proof.Machine.execKmabb rd rs1 rs2 s
  | .kmabt rd rs1 rs2 => Sys2Proof.Machine.execKmabt rd rs1 rs2 s
  | .kmatt rd rs1 rs2 => Sys2Proof.Machine.execKmatt rd rs1 rs2 s
  | .kmada rd rs1 rs2 => Sys2Proof.Machine.execKmada rd rs1 rs2 s
  | .kmaxda rd rs1 rs2 => Sys2Proof.Machine.execKmaxda rd rs1 rs2 s
  | .kmads rd rs1 rs2 => Sys2Proof.Machine.execKmads rd rs1 rs2 s
  | .kmadrs rd rs1 rs2 => Sys2Proof.Machine.execKmadrs rd rs1 rs2 s
  | .kmaxds rd rs1 rs2 => Sys2Proof.Machine.execKmaxds rd rs1 rs2 s
  | .kmsda rd rs1 rs2 => Sys2Proof.Machine.execKmsda rd rs1 rs2 s
  | .kmsxda rd rs1 rs2 => Sys2Proof.Machine.execKmsxda rd rs1 rs2 s
  | .smal rd rs1 rs2 => Sys2Proof.Machine.execSmal rd rs1 rs2 s
  | .sclip32 rd rs1 imm => Sys2Proof.Machine.execSclip32 rd rs1 imm s
  | .uclip32 rd rs1 imm => Sys2Proof.Machine.execUclip32 rd rs1 imm s
  | .clrs32 rd rs1 => Sys2Proof.Machine.execClrs32 rd rs1 s
  | .clz32 rd rs1 => Sys2Proof.Machine.execClz32 rd rs1 s
  | .pbsad rd rs1 rs2 => Sys2Proof.Machine.execPbsad rd rs1 rs2 s
  | .pbsada rd rs1 rs2 => Sys2Proof.Machine.execPbsada rd rs1 rs2 s
  | .smaqa rd rs1 rs2 => Sys2Proof.Machine.execSmaqa rd rs1 rs2 s
  | .umaqa rd rs1 rs2 => Sys2Proof.Machine.execUmaqa rd rs1 rs2 s
  | .smaqaSu rd rs1 rs2 => Sys2Proof.Machine.execSmaqaSu rd rs1 rs2 s
  | .add64 rd rs1 rs2 => Sys2Proof.Machine.execAdd64 rd rs1 rs2 s
  | .radd64 rd rs1 rs2 => Sys2Proof.Machine.execRadd64 rd rs1 rs2 s
  | .uradd64 rd rs1 rs2 => Sys2Proof.Machine.execUradd64 rd rs1 rs2 s
  | .kadd64 rd rs1 rs2 => Sys2Proof.Machine.execKadd64 rd rs1 rs2 s
  | .ukadd64 rd rs1 rs2 => Sys2Proof.Machine.execUkadd64 rd rs1 rs2 s
  | .sub64 rd rs1 rs2 => Sys2Proof.Machine.execSub64 rd rs1 rs2 s
  | .rsub64 rd rs1 rs2 => Sys2Proof.Machine.execRsub64 rd rs1 rs2 s
  | .ursub64 rd rs1 rs2 => Sys2Proof.Machine.execUrsub64 rd rs1 rs2 s
  | .ksub64 rd rs1 rs2 => Sys2Proof.Machine.execKsub64 rd rs1 rs2 s
  | .uksub64 rd rs1 rs2 => Sys2Proof.Machine.execUksub64 rd rs1 rs2 s
  | .smar64 rd rs1 rs2 => Sys2Proof.Machine.execSmar64 rd rs1 rs2 s
  | .smsr64 rd rs1 rs2 => Sys2Proof.Machine.execSmsr64 rd rs1 rs2 s
  | .umar64 rd rs1 rs2 => Sys2Proof.Machine.execUmar64 rd rs1 rs2 s
  | .umsr64 rd rs1 rs2 => Sys2Proof.Machine.execUmsr64 rd rs1 rs2 s
  | .kmar64 rd rs1 rs2 => Sys2Proof.Machine.execKmar64 rd rs1 rs2 s
  | .kmsr64 rd rs1 rs2 => Sys2Proof.Machine.execKmsr64 rd rs1 rs2 s
  | .ukmar64 rd rs1 rs2 => Sys2Proof.Machine.execUkmar64 rd rs1 rs2 s
  | .ukmsr64 rd rs1 rs2 => Sys2Proof.Machine.execUkmsr64 rd rs1 rs2 s
  | .smalbb rd rs1 rs2 => Sys2Proof.Machine.execSmalbb rd rs1 rs2 s
  | .smalbt rd rs1 rs2 => Sys2Proof.Machine.execSmalbt rd rs1 rs2 s
  | .smaltt rd rs1 rs2 => Sys2Proof.Machine.execSmaltt rd rs1 rs2 s
  | .smalda rd rs1 rs2 => Sys2Proof.Machine.execSmalda rd rs1 rs2 s
  | .smalxda rd rs1 rs2 => Sys2Proof.Machine.execSmalxda rd rs1 rs2 s
  | .smalds rd rs1 rs2 => Sys2Proof.Machine.execSmalds rd rs1 rs2 s
  | .smaldrs rd rs1 rs2 => Sys2Proof.Machine.execSmaldrs rd rs1 rs2 s
  | .smalxds rd rs1 rs2 => Sys2Proof.Machine.execSmalxds rd rs1 rs2 s
  | .smslda rd rs1 rs2 => Sys2Proof.Machine.execSmslda rd rs1 rs2 s
  | .smslxda rd rs1 rs2 => Sys2Proof.Machine.execSmslxda rd rs1 rs2 s
  | .kaddh rd rs1 rs2 => Sys2Proof.Machine.execKaddh rd rs1 rs2 s
  | .ksubh rd rs1 rs2 => Sys2Proof.Machine.execKsubh rd rs1 rs2 s
  | .ukaddh rd rs1 rs2 => Sys2Proof.Machine.execUkaddh rd rs1 rs2 s
  | .uksubh rd rs1 rs2 => Sys2Proof.Machine.execUksubh rd rs1 rs2 s
  | .khmbb rd rs1 rs2 => Sys2Proof.Machine.execKhmbb rd rs1 rs2 s
  | .khmbt rd rs1 rs2 => Sys2Proof.Machine.execKhmbt rd rs1 rs2 s
  | .khmtt rd rs1 rs2 => Sys2Proof.Machine.execKhmtt rd rs1 rs2 s
  | .kaddw rd rs1 rs2 => Sys2Proof.Machine.execKaddw rd rs1 rs2 s
  | .ukaddw rd rs1 rs2 => Sys2Proof.Machine.execUkaddw rd rs1 rs2 s
  | .ksubw rd rs1 rs2 => Sys2Proof.Machine.execKsubw rd rs1 rs2 s
  | .uksubw rd rs1 rs2 => Sys2Proof.Machine.execUksubw rd rs1 rs2 s
  | .kdmbb rd rs1 rs2 => Sys2Proof.Machine.execKdmbb rd rs1 rs2 s
  | .kdmbt rd rs1 rs2 => Sys2Proof.Machine.execKdmbt rd rs1 rs2 s
  | .kdmtt rd rs1 rs2 => Sys2Proof.Machine.execKdmtt rd rs1 rs2 s
  | .kslraw rd rs1 rs2 => Sys2Proof.Machine.execKslraw rd rs1 rs2 s
  | .kslrawU rd rs1 rs2 => Sys2Proof.Machine.execKslrawU rd rs1 rs2 s
  | .ksllw rd rs1 rs2 => Sys2Proof.Machine.execKsllw rd rs1 rs2 s
  | .kslliw rd rs1 imm => Sys2Proof.Machine.execKslliw rd rs1 imm s
  | .kdmabb rd rs1 rs2 => Sys2Proof.Machine.execKdmabb rd rs1 rs2 s
  | .kdmabt rd rs1 rs2 => Sys2Proof.Machine.execKdmabt rd rs1 rs2 s
  | .kdmatt rd rs1 rs2 => Sys2Proof.Machine.execKdmatt rd rs1 rs2 s
  | .kabsw rd rs1 => Sys2Proof.Machine.execKabsw rd rs1 s
  | .raddw rd rs1 rs2 => Sys2Proof.Machine.execRaddw rd rs1 rs2 s
  | .uraddw rd rs1 rs2 => Sys2Proof.Machine.execUraddw rd rs1 rs2 s
  | .rsubw rd rs1 rs2 => Sys2Proof.Machine.execRsubw rd rs1 rs2 s
  | .ursubw rd rs1 rs2 => Sys2Proof.Machine.execUrsubw rd rs1 rs2 s
  | .mulr64 rd rs1 rs2 => Sys2Proof.Machine.execMulr64 rd rs1 rs2 s
  | .mulsr64 rd rs1 rs2 => Sys2Proof.Machine.execMulsr64 rd rs1 rs2 s
  | .msubr32 rd rs1 rs2 => Sys2Proof.Machine.execMsubr32 rd rs1 rs2 s
  | .ave rd rs1 rs2 => Sys2Proof.Machine.execAve rd rs1 rs2 s
  | .sraU rd rs1 rs2 => Sys2Proof.Machine.execSraU rd rs1 rs2 s
  | .bitrev rd rs1 rs2 => Sys2Proof.Machine.execBitrev rd rs1 rs2 s
  | .bitreviRv32 rd rs1 imm => Sys2Proof.Machine.execBitreviRv32 rd rs1 imm s
  | .bitreviRv64 rd rs1 imm => Sys2Proof.Machine.execBitreviRv64 rd rs1 imm s
  | .sraiURv32 rd rs1 imm => Sys2Proof.Machine.execSraiURv32 rd rs1 imm s
  | .sraiURv64 rd rs1 imm => Sys2Proof.Machine.execSraiURv64 rd rs1 imm s
  | .insbRv32 rd rs1 imm => Sys2Proof.Machine.execInsbRv32 rd rs1 imm s
  | .insbRv64 rd rs1 imm => Sys2Proof.Machine.execInsbRv64 rd rs1 imm s
  | .wext rd rs1 rs2 => Sys2Proof.Machine.execWext rd rs1 rs2 s
  | .wexti rd rs1 imm => Sys2Proof.Machine.execWexti rd rs1 imm s
  | .maddr32 rd rs1 rs2 => Sys2Proof.Machine.execMaddr32 rd rs1 rs2 s
  | .add32 rd rs1 rs2 => Sys2Proof.Machine.execAdd32 rd rs1 rs2 s
  | .radd32 rd rs1 rs2 => Sys2Proof.Machine.execRadd32 rd rs1 rs2 s
  | .uradd32 rd rs1 rs2 => Sys2Proof.Machine.execUradd32 rd rs1 rs2 s
  | .kadd32 rd rs1 rs2 => Sys2Proof.Machine.execKadd32 rd rs1 rs2 s
  | .ukadd32 rd rs1 rs2 => Sys2Proof.Machine.execUkadd32 rd rs1 rs2 s
  | .sub32 rd rs1 rs2 => Sys2Proof.Machine.execSub32 rd rs1 rs2 s
  | .rsub32 rd rs1 rs2 => Sys2Proof.Machine.execRsub32 rd rs1 rs2 s
  | .ursub32 rd rs1 rs2 => Sys2Proof.Machine.execUrsub32 rd rs1 rs2 s
  | .ksub32 rd rs1 rs2 => Sys2Proof.Machine.execKsub32 rd rs1 rs2 s
  | .uksub32 rd rs1 rs2 => Sys2Proof.Machine.execUksub32 rd rs1 rs2 s
  | .cras32 rd rs1 rs2 => Sys2Proof.Machine.execCras32 rd rs1 rs2 s
  | .rcras32 rd rs1 rs2 => Sys2Proof.Machine.execRcras32 rd rs1 rs2 s
  | .urcras32 rd rs1 rs2 => Sys2Proof.Machine.execUrcras32 rd rs1 rs2 s
  | .kcras32 rd rs1 rs2 => Sys2Proof.Machine.execKcras32 rd rs1 rs2 s
  | .ukcras32 rd rs1 rs2 => Sys2Proof.Machine.execUkcras32 rd rs1 rs2 s
  | .crsa32 rd rs1 rs2 => Sys2Proof.Machine.execCrsa32 rd rs1 rs2 s
  | .rcrsa32 rd rs1 rs2 => Sys2Proof.Machine.execRcrsa32 rd rs1 rs2 s
  | .urcrsa32 rd rs1 rs2 => Sys2Proof.Machine.execUrcrsa32 rd rs1 rs2 s
  | .kcrsa32 rd rs1 rs2 => Sys2Proof.Machine.execKcrsa32 rd rs1 rs2 s
  | .ukcrsa32 rd rs1 rs2 => Sys2Proof.Machine.execUkcrsa32 rd rs1 rs2 s
  | .stas32 rd rs1 rs2 => Sys2Proof.Machine.execStas32 rd rs1 rs2 s
  | .rstas32 rd rs1 rs2 => Sys2Proof.Machine.execRstas32 rd rs1 rs2 s
  | .urstas32 rd rs1 rs2 => Sys2Proof.Machine.execUrstas32 rd rs1 rs2 s
  | .kstas32 rd rs1 rs2 => Sys2Proof.Machine.execKstas32 rd rs1 rs2 s
  | .ukstas32 rd rs1 rs2 => Sys2Proof.Machine.execUkstas32 rd rs1 rs2 s
  | .stsa32 rd rs1 rs2 => Sys2Proof.Machine.execStsa32 rd rs1 rs2 s
  | .rstsa32 rd rs1 rs2 => Sys2Proof.Machine.execRstsa32 rd rs1 rs2 s
  | .urstsa32 rd rs1 rs2 => Sys2Proof.Machine.execUrstsa32 rd rs1 rs2 s
  | .kstsa32 rd rs1 rs2 => Sys2Proof.Machine.execKstsa32 rd rs1 rs2 s
  | .ukstsa32 rd rs1 rs2 => Sys2Proof.Machine.execUkstsa32 rd rs1 rs2 s
  | .sra32 rd rs1 rs2 => Sys2Proof.Machine.execSra32 rd rs1 rs2 s
  | .srai32 rd rs1 imm => Sys2Proof.Machine.execSrai32 rd rs1 imm s
  | .sra32U rd rs1 rs2 => Sys2Proof.Machine.execSra32U rd rs1 rs2 s
  | .srai32U rd rs1 imm => Sys2Proof.Machine.execSrai32U rd rs1 imm s
  | .srl32 rd rs1 rs2 => Sys2Proof.Machine.execSrl32 rd rs1 rs2 s
  | .srli32 rd rs1 imm => Sys2Proof.Machine.execSrli32 rd rs1 imm s
  | .srl32U rd rs1 rs2 => Sys2Proof.Machine.execSrl32U rd rs1 rs2 s
  | .srli32U rd rs1 imm => Sys2Proof.Machine.execSrli32U rd rs1 imm s
  | .sll32 rd rs1 rs2 => Sys2Proof.Machine.execSll32 rd rs1 rs2 s
  | .slli32 rd rs1 imm => Sys2Proof.Machine.execSlli32 rd rs1 imm s
  | .ksll32 rd rs1 rs2 => Sys2Proof.Machine.execKsll32 rd rs1 rs2 s
  | .kslli32 rd rs1 imm => Sys2Proof.Machine.execKslli32 rd rs1 imm s
  | .kslra32 rd rs1 rs2 => Sys2Proof.Machine.execKslra32 rd rs1 rs2 s
  | .kslra32U rd rs1 rs2 => Sys2Proof.Machine.execKslra32U rd rs1 rs2 s
  | .smin32 rd rs1 rs2 => Sys2Proof.Machine.execSmin32 rd rs1 rs2 s
  | .umin32 rd rs1 rs2 => Sys2Proof.Machine.execUmin32 rd rs1 rs2 s
  | .smax32 rd rs1 rs2 => Sys2Proof.Machine.execSmax32 rd rs1 rs2 s
  | .umax32 rd rs1 rs2 => Sys2Proof.Machine.execUmax32 rd rs1 rs2 s
  | .kabs32 rd rs1 => Sys2Proof.Machine.execKabs32 rd rs1 s
  | .khmbb16 rd rs1 rs2 => Sys2Proof.Machine.execKhmbb16 rd rs1 rs2 s
  | .khmbt16 rd rs1 rs2 => Sys2Proof.Machine.execKhmbt16 rd rs1 rs2 s
  | .khmtt16 rd rs1 rs2 => Sys2Proof.Machine.execKhmtt16 rd rs1 rs2 s
  | .kdmbb16 rd rs1 rs2 => Sys2Proof.Machine.execKdmbb16 rd rs1 rs2 s
  | .kdmbt16 rd rs1 rs2 => Sys2Proof.Machine.execKdmbt16 rd rs1 rs2 s
  | .kdmtt16 rd rs1 rs2 => Sys2Proof.Machine.execKdmtt16 rd rs1 rs2 s
  | .kdmabb16 rd rs1 rs2 => Sys2Proof.Machine.execKdmabb16 rd rs1 rs2 s
  | .kdmabt16 rd rs1 rs2 => Sys2Proof.Machine.execKdmabt16 rd rs1 rs2 s
  | .kdmatt16 rd rs1 rs2 => Sys2Proof.Machine.execKdmatt16 rd rs1 rs2 s
  | .smbb32 rd rs1 rs2 => Sys2Proof.Machine.execSmbb32 rd rs1 rs2 s
  | .smbt32 rd rs1 rs2 => Sys2Proof.Machine.execSmbt32 rd rs1 rs2 s
  | .smtt32 rd rs1 rs2 => Sys2Proof.Machine.execSmtt32 rd rs1 rs2 s
  | .kmabb32 rd rs1 rs2 => Sys2Proof.Machine.execKmabb32 rd rs1 rs2 s
  | .kmabt32 rd rs1 rs2 => Sys2Proof.Machine.execKmabt32 rd rs1 rs2 s
  | .kmatt32 rd rs1 rs2 => Sys2Proof.Machine.execKmatt32 rd rs1 rs2 s
  | .kmda32 rd rs1 rs2 => Sys2Proof.Machine.execKmda32 rd rs1 rs2 s
  | .kmxda32 rd rs1 rs2 => Sys2Proof.Machine.execKmxda32 rd rs1 rs2 s
  | .kmada32 rd rs1 rs2 => Sys2Proof.Machine.execKmada32 rd rs1 rs2 s
  | .kmaxda32 rd rs1 rs2 => Sys2Proof.Machine.execKmaxda32 rd rs1 rs2 s
  | .kmads32 rd rs1 rs2 => Sys2Proof.Machine.execKmads32 rd rs1 rs2 s
  | .kmadrs32 rd rs1 rs2 => Sys2Proof.Machine.execKmadrs32 rd rs1 rs2 s
  | .kmaxds32 rd rs1 rs2 => Sys2Proof.Machine.execKmaxds32 rd rs1 rs2 s
  | .kmsda32 rd rs1 rs2 => Sys2Proof.Machine.execKmsda32 rd rs1 rs2 s
  | .kmsxda32 rd rs1 rs2 => Sys2Proof.Machine.execKmsxda32 rd rs1 rs2 s
  | .smds32 rd rs1 rs2 => Sys2Proof.Machine.execSmds32 rd rs1 rs2 s
  | .smdrs32 rd rs1 rs2 => Sys2Proof.Machine.execSmdrs32 rd rs1 rs2 s
  | .smxds32 rd rs1 rs2 => Sys2Proof.Machine.execSmxds32 rd rs1 rs2 s
  | .sraiwU rd rs1 imm => Sys2Proof.Machine.execSraiwU rd rs1 imm s
  | .pkbb32 rd rs1 rs2 => Sys2Proof.Machine.execPkbb32 rd rs1 rs2 s
  | .pkbt32 rd rs1 rs2 => Sys2Proof.Machine.execPkbt32 rd rs1 rs2 s
  | .pktb32 rd rs1 rs2 => Sys2Proof.Machine.execPktb32 rd rs1 rs2 s
  | .pktt32 rd rs1 rs2 => Sys2Proof.Machine.execPktt32 rd rs1 rs2 s

end Sys2Proof.Machine
end

