-- ==== Sys2Proof/Machine/Run.lean ====
section
/-!
DEFINITION. Running a decoded row. `runRow` is `exec` of the instruction the word holds. A value of `Instr`, with its
357 constructors, does not fit the tags of Lean's runtime, so no code can be generated for `instrOf`; the code of
`runRow` is `runRowCode`, which calls the same meanings on the same operands, as `runRow_eq_runRowCode` proves.
-/

namespace Sys2Proof.Machine

/-- The effect of the instruction a row and its word stand for. -/
noncomputable def runRow (row : Row) (w : Word) (s : State) : Host.Outcome State Fault Refusal :=
  exec (instrOf row w) s

/-- The same function without a value of `Instr`, for generated code only. -/
def runRowCode (row : Row) (w : Word) (s : State) : Host.Outcome State Fault Refusal :=
  match row with
  | .rdov => execRdov (rdOf w) s
  | .clrov => execClrov s
  | .csrrw => execCsrrw (rdOf w) (rs1Of w) s
  | .csrrs => execCsrrs (rdOf w) (rs1Of w) s
  | .csrrc => execCsrrc (rdOf w) (rs1Of w) s
  | .csrrwi => execCsrrwi (rdOf w) (rs1Of w) s
  | .csrrsi => execCsrrsi (rdOf w) (rs1Of w) s
  | .csrrci => execCsrrci (rdOf w) (rs1Of w) s
  | .lw => execLw (rdOf w) (rs1Of w) (immIOf w) s
  | .sw => execSw (rs2Of w) (rs1Of w) (immSOf w) s
  | .ld => execLd (rdOf w) (rs1Of w) (immIOf w) s
  | .sd => execSd (rs2Of w) (rs1Of w) (immSOf w) s
  | .addi => execAddi (rdOf w) (rs1Of w) (immIOf w) s
  | .lui => execLui (rdOf w) (immUOf w) s
  | .bne => execBne (rs1Of w) (rs2Of w) (offsetOf w) s
  | .clz => execClz (rdOf w) (rs1Of w) s
  | .cmix => execCmix (rdOf w) (rs1Of w) (rs2Of w) (rs3Of w) s
  | .fsr => execFsr (rdOf w) (rs1Of w) (rs2Of w) (rs3Of w) s
  | .fsri => execFsri (rdOf w) (rs1Of w) (rs3Of w) (imm6Of w) s
  | .fsrw => execFsrw (rdOf w) (rs1Of w) (rs2Of w) (rs3Of w) s
  | .max => execMax (rdOf w) (rs1Of w) (rs2Of w) s
  | .min => execMin (rdOf w) (rs1Of w) (rs2Of w) s
  | .pack => execPack (rdOf w) (rs1Of w) (rs2Of w) s
  | .packu => execPacku (rdOf w) (rs1Of w) (rs2Of w) s
  | .revRv32 => execRevRv32 (rdOf w) (rs1Of w) s
  | .revRv64 => execRevRv64 (rdOf w) (rs1Of w) s
  | .rev8H => execRev8H (rdOf w) (rs1Of w) s
  | .bpick => execBpick (rdOf w) (rs1Of w) (rs2Of w) (rs3Of w) s
  | .maxw => execMaxw (rdOf w) (rs1Of w) (rs2Of w) s
  | .minw => execMinw (rdOf w) (rs1Of w) (rs2Of w) s
  | .add16 => execAdd16 (rdOf w) (rs1Of w) (rs2Of w) s
  | .radd16 => execRadd16 (rdOf w) (rs1Of w) (rs2Of w) s
  | .uradd16 => execUradd16 (rdOf w) (rs1Of w) (rs2Of w) s
  | .kadd16 => execKadd16 (rdOf w) (rs1Of w) (rs2Of w) s
  | .ukadd16 => execUkadd16 (rdOf w) (rs1Of w) (rs2Of w) s
  | .sub16 => execSub16 (rdOf w) (rs1Of w) (rs2Of w) s
  | .rsub16 => execRsub16 (rdOf w) (rs1Of w) (rs2Of w) s
  | .ursub16 => execUrsub16 (rdOf w) (rs1Of w) (rs2Of w) s
  | .ksub16 => execKsub16 (rdOf w) (rs1Of w) (rs2Of w) s
  | .uksub16 => execUksub16 (rdOf w) (rs1Of w) (rs2Of w) s
  | .cras16 => execCras16 (rdOf w) (rs1Of w) (rs2Of w) s
  | .rcras16 => execRcras16 (rdOf w) (rs1Of w) (rs2Of w) s
  | .urcras16 => execUrcras16 (rdOf w) (rs1Of w) (rs2Of w) s
  | .kcras16 => execKcras16 (rdOf w) (rs1Of w) (rs2Of w) s
  | .ukcras16 => execUkcras16 (rdOf w) (rs1Of w) (rs2Of w) s
  | .crsa16 => execCrsa16 (rdOf w) (rs1Of w) (rs2Of w) s
  | .rcrsa16 => execRcrsa16 (rdOf w) (rs1Of w) (rs2Of w) s
  | .urcrsa16 => execUrcrsa16 (rdOf w) (rs1Of w) (rs2Of w) s
  | .kcrsa16 => execKcrsa16 (rdOf w) (rs1Of w) (rs2Of w) s
  | .ukcrsa16 => execUkcrsa16 (rdOf w) (rs1Of w) (rs2Of w) s
  | .stas16 => execStas16 (rdOf w) (rs1Of w) (rs2Of w) s
  | .rstas16 => execRstas16 (rdOf w) (rs1Of w) (rs2Of w) s
  | .urstas16 => execUrstas16 (rdOf w) (rs1Of w) (rs2Of w) s
  | .kstas16 => execKstas16 (rdOf w) (rs1Of w) (rs2Of w) s
  | .ukstas16 => execUkstas16 (rdOf w) (rs1Of w) (rs2Of w) s
  | .stsa16 => execStsa16 (rdOf w) (rs1Of w) (rs2Of w) s
  | .rstsa16 => execRstsa16 (rdOf w) (rs1Of w) (rs2Of w) s
  | .urstsa16 => execUrstsa16 (rdOf w) (rs1Of w) (rs2Of w) s
  | .kstsa16 => execKstsa16 (rdOf w) (rs1Of w) (rs2Of w) s
  | .ukstsa16 => execUkstsa16 (rdOf w) (rs1Of w) (rs2Of w) s
  | .add8 => execAdd8 (rdOf w) (rs1Of w) (rs2Of w) s
  | .radd8 => execRadd8 (rdOf w) (rs1Of w) (rs2Of w) s
  | .uradd8 => execUradd8 (rdOf w) (rs1Of w) (rs2Of w) s
  | .kadd8 => execKadd8 (rdOf w) (rs1Of w) (rs2Of w) s
  | .ukadd8 => execUkadd8 (rdOf w) (rs1Of w) (rs2Of w) s
  | .sub8 => execSub8 (rdOf w) (rs1Of w) (rs2Of w) s
  | .rsub8 => execRsub8 (rdOf w) (rs1Of w) (rs2Of w) s
  | .ursub8 => execUrsub8 (rdOf w) (rs1Of w) (rs2Of w) s
  | .ksub8 => execKsub8 (rdOf w) (rs1Of w) (rs2Of w) s
  | .uksub8 => execUksub8 (rdOf w) (rs1Of w) (rs2Of w) s
  | .sra16 => execSra16 (rdOf w) (rs1Of w) (rs2Of w) s
  | .srai16 => execSrai16 (rdOf w) (rs1Of w) (imm4Of w) s
  | .sra16U => execSra16U (rdOf w) (rs1Of w) (rs2Of w) s
  | .srai16U => execSrai16U (rdOf w) (rs1Of w) (imm4Of w) s
  | .srl16 => execSrl16 (rdOf w) (rs1Of w) (rs2Of w) s
  | .srli16 => execSrli16 (rdOf w) (rs1Of w) (imm4Of w) s
  | .srl16U => execSrl16U (rdOf w) (rs1Of w) (rs2Of w) s
  | .srli16U => execSrli16U (rdOf w) (rs1Of w) (imm4Of w) s
  | .sll16 => execSll16 (rdOf w) (rs1Of w) (rs2Of w) s
  | .slli16 => execSlli16 (rdOf w) (rs1Of w) (imm4Of w) s
  | .ksll16 => execKsll16 (rdOf w) (rs1Of w) (rs2Of w) s
  | .kslli16 => execKslli16 (rdOf w) (rs1Of w) (imm4Of w) s
  | .kslra16 => execKslra16 (rdOf w) (rs1Of w) (rs2Of w) s
  | .kslra16U => execKslra16U (rdOf w) (rs1Of w) (rs2Of w) s
  | .sra8 => execSra8 (rdOf w) (rs1Of w) (rs2Of w) s
  | .srai8 => execSrai8 (rdOf w) (rs1Of w) (imm3Of w) s
  | .sra8U => execSra8U (rdOf w) (rs1Of w) (rs2Of w) s
  | .srai8U => execSrai8U (rdOf w) (rs1Of w) (imm3Of w) s
  | .srl8 => execSrl8 (rdOf w) (rs1Of w) (rs2Of w) s
  | .srli8 => execSrli8 (rdOf w) (rs1Of w) (imm3Of w) s
  | .srl8U => execSrl8U (rdOf w) (rs1Of w) (rs2Of w) s
  | .srli8U => execSrli8U (rdOf w) (rs1Of w) (imm3Of w) s
  | .sll8 => execSll8 (rdOf w) (rs1Of w) (rs2Of w) s
  | .slli8 => execSlli8 (rdOf w) (rs1Of w) (imm3Of w) s
  | .ksll8 => execKsll8 (rdOf w) (rs1Of w) (rs2Of w) s
  | .kslli8 => execKslli8 (rdOf w) (rs1Of w) (imm3Of w) s
  | .kslra8 => execKslra8 (rdOf w) (rs1Of w) (rs2Of w) s
  | .kslra8U => execKslra8U (rdOf w) (rs1Of w) (rs2Of w) s
  | .cmpeq16 => execCmpeq16 (rdOf w) (rs1Of w) (rs2Of w) s
  | .scmplt16 => execScmplt16 (rdOf w) (rs1Of w) (rs2Of w) s
  | .scmple16 => execScmple16 (rdOf w) (rs1Of w) (rs2Of w) s
  | .ucmplt16 => execUcmplt16 (rdOf w) (rs1Of w) (rs2Of w) s
  | .ucmple16 => execUcmple16 (rdOf w) (rs1Of w) (rs2Of w) s
  | .cmpeq8 => execCmpeq8 (rdOf w) (rs1Of w) (rs2Of w) s
  | .scmplt8 => execScmplt8 (rdOf w) (rs1Of w) (rs2Of w) s
  | .scmple8 => execScmple8 (rdOf w) (rs1Of w) (rs2Of w) s
  | .ucmplt8 => execUcmplt8 (rdOf w) (rs1Of w) (rs2Of w) s
  | .ucmple8 => execUcmple8 (rdOf w) (rs1Of w) (rs2Of w) s
  | .smin16 => execSmin16 (rdOf w) (rs1Of w) (rs2Of w) s
  | .umin16 => execUmin16 (rdOf w) (rs1Of w) (rs2Of w) s
  | .smax16 => execSmax16 (rdOf w) (rs1Of w) (rs2Of w) s
  | .umax16 => execUmax16 (rdOf w) (rs1Of w) (rs2Of w) s
  | .sclip16 => execSclip16 (rdOf w) (rs1Of w) (imm4Of w) s
  | .uclip16 => execUclip16 (rdOf w) (rs1Of w) (imm4Of w) s
  | .kabs16 => execKabs16 (rdOf w) (rs1Of w) s
  | .clrs16 => execClrs16 (rdOf w) (rs1Of w) s
  | .clz16 => execClz16 (rdOf w) (rs1Of w) s
  | .swap16 => execSwap16 (rdOf w) (rs1Of w) s
  | .smin8 => execSmin8 (rdOf w) (rs1Of w) (rs2Of w) s
  | .umin8 => execUmin8 (rdOf w) (rs1Of w) (rs2Of w) s
  | .smax8 => execSmax8 (rdOf w) (rs1Of w) (rs2Of w) s
  | .umax8 => execUmax8 (rdOf w) (rs1Of w) (rs2Of w) s
  | .kabs8 => execKabs8 (rdOf w) (rs1Of w) s
  | .sclip8 => execSclip8 (rdOf w) (rs1Of w) (imm3Of w) s
  | .uclip8 => execUclip8 (rdOf w) (rs1Of w) (imm3Of w) s
  | .clrs8 => execClrs8 (rdOf w) (rs1Of w) s
  | .clz8 => execClz8 (rdOf w) (rs1Of w) s
  | .swap8 => execSwap8 (rdOf w) (rs1Of w) s
  | .sunpkd810 => execSunpkd810 (rdOf w) (rs1Of w) s
  | .sunpkd820 => execSunpkd820 (rdOf w) (rs1Of w) s
  | .sunpkd830 => execSunpkd830 (rdOf w) (rs1Of w) s
  | .sunpkd831 => execSunpkd831 (rdOf w) (rs1Of w) s
  | .sunpkd832 => execSunpkd832 (rdOf w) (rs1Of w) s
  | .zunpkd810 => execZunpkd810 (rdOf w) (rs1Of w) s
  | .zunpkd820 => execZunpkd820 (rdOf w) (rs1Of w) s
  | .zunpkd830 => execZunpkd830 (rdOf w) (rs1Of w) s
  | .zunpkd831 => execZunpkd831 (rdOf w) (rs1Of w) s
  | .zunpkd832 => execZunpkd832 (rdOf w) (rs1Of w) s
  | .smul16 => execSmul16 (rdOf w) (rs1Of w) (rs2Of w) s
  | .smulx16 => execSmulx16 (rdOf w) (rs1Of w) (rs2Of w) s
  | .umul16 => execUmul16 (rdOf w) (rs1Of w) (rs2Of w) s
  | .umulx16 => execUmulx16 (rdOf w) (rs1Of w) (rs2Of w) s
  | .khm16 => execKhm16 (rdOf w) (rs1Of w) (rs2Of w) s
  | .khmx16 => execKhmx16 (rdOf w) (rs1Of w) (rs2Of w) s
  | .smul8 => execSmul8 (rdOf w) (rs1Of w) (rs2Of w) s
  | .smulx8 => execSmulx8 (rdOf w) (rs1Of w) (rs2Of w) s
  | .umul8 => execUmul8 (rdOf w) (rs1Of w) (rs2Of w) s
  | .umulx8 => execUmulx8 (rdOf w) (rs1Of w) (rs2Of w) s
  | .khm8 => execKhm8 (rdOf w) (rs1Of w) (rs2Of w) s
  | .khmx8 => execKhmx8 (rdOf w) (rs1Of w) (rs2Of w) s
  | .pkbb16 => execPkbb16 (rdOf w) (rs1Of w) (rs2Of w) s
  | .pkbt16 => execPkbt16 (rdOf w) (rs1Of w) (rs2Of w) s
  | .pktt16 => execPktt16 (rdOf w) (rs1Of w) (rs2Of w) s
  | .pktb16 => execPktb16 (rdOf w) (rs1Of w) (rs2Of w) s
  | .smmul => execSmmul (rdOf w) (rs1Of w) (rs2Of w) s
  | .smmulRv32 => execSmmulRv32 (rdOf w) (rs1Of w) (rs2Of w) s
  | .smmulU => execSmmulU (rdOf w) (rs1Of w) (rs2Of w) s
  | .kmmac => execKmmac (rdOf w) (rs1Of w) (rs2Of w) s
  | .kmmacU => execKmmacU (rdOf w) (rs1Of w) (rs2Of w) s
  | .kmmsb => execKmmsb (rdOf w) (rs1Of w) (rs2Of w) s
  | .kmmsbU => execKmmsbU (rdOf w) (rs1Of w) (rs2Of w) s
  | .kwmmul => execKwmmul (rdOf w) (rs1Of w) (rs2Of w) s
  | .kwmmulU => execKwmmulU (rdOf w) (rs1Of w) (rs2Of w) s
  | .smmwb => execSmmwb (rdOf w) (rs1Of w) (rs2Of w) s
  | .smmwbU => execSmmwbU (rdOf w) (rs1Of w) (rs2Of w) s
  | .smmwt => execSmmwt (rdOf w) (rs1Of w) (rs2Of w) s
  | .smmwtU => execSmmwtU (rdOf w) (rs1Of w) (rs2Of w) s
  | .kmmawb => execKmmawb (rdOf w) (rs1Of w) (rs2Of w) s
  | .kmmawbU => execKmmawbU (rdOf w) (rs1Of w) (rs2Of w) s
  | .kmmawt => execKmmawt (rdOf w) (rs1Of w) (rs2Of w) s
  | .kmmawtU => execKmmawtU (rdOf w) (rs1Of w) (rs2Of w) s
  | .kmmwb2 => execKmmwb2 (rdOf w) (rs1Of w) (rs2Of w) s
  | .kmmwb2U => execKmmwb2U (rdOf w) (rs1Of w) (rs2Of w) s
  | .kmmwt2 => execKmmwt2 (rdOf w) (rs1Of w) (rs2Of w) s
  | .kmmwt2U => execKmmwt2U (rdOf w) (rs1Of w) (rs2Of w) s
  | .kmmawb2 => execKmmawb2 (rdOf w) (rs1Of w) (rs2Of w) s
  | .kmmawb2U => execKmmawb2U (rdOf w) (rs1Of w) (rs2Of w) s
  | .kmmawt2 => execKmmawt2 (rdOf w) (rs1Of w) (rs2Of w) s
  | .kmmawt2U => execKmmawt2U (rdOf w) (rs1Of w) (rs2Of w) s
  | .smbb16 => execSmbb16 (rdOf w) (rs1Of w) (rs2Of w) s
  | .smbt16 => execSmbt16 (rdOf w) (rs1Of w) (rs2Of w) s
  | .smtt16 => execSmtt16 (rdOf w) (rs1Of w) (rs2Of w) s
  | .kmda => execKmda (rdOf w) (rs1Of w) (rs2Of w) s
  | .kmxda => execKmxda (rdOf w) (rs1Of w) (rs2Of w) s
  | .smds => execSmds (rdOf w) (rs1Of w) (rs2Of w) s
  | .smdrs => execSmdrs (rdOf w) (rs1Of w) (rs2Of w) s
  | .smxds => execSmxds (rdOf w) (rs1Of w) (rs2Of w) s
  | .kmabb => execKmabb (rdOf w) (rs1Of w) (rs2Of w) s
  | .kmabt => execKmabt (rdOf w) (rs1Of w) (rs2Of w) s
  | .kmatt => execKmatt (rdOf w) (rs1Of w) (rs2Of w) s
  | .kmada => execKmada (rdOf w) (rs1Of w) (rs2Of w) s
  | .kmaxda => execKmaxda (rdOf w) (rs1Of w) (rs2Of w) s
  | .kmads => execKmads (rdOf w) (rs1Of w) (rs2Of w) s
  | .kmadrs => execKmadrs (rdOf w) (rs1Of w) (rs2Of w) s
  | .kmaxds => execKmaxds (rdOf w) (rs1Of w) (rs2Of w) s
  | .kmsda => execKmsda (rdOf w) (rs1Of w) (rs2Of w) s
  | .kmsxda => execKmsxda (rdOf w) (rs1Of w) (rs2Of w) s
  | .smal => execSmal (rdOf w) (rs1Of w) (rs2Of w) s
  | .sclip32 => execSclip32 (rdOf w) (rs1Of w) (imm5Of w) s
  | .uclip32 => execUclip32 (rdOf w) (rs1Of w) (imm5Of w) s
  | .clrs32 => execClrs32 (rdOf w) (rs1Of w) s
  | .clz32 => execClz32 (rdOf w) (rs1Of w) s
  | .pbsad => execPbsad (rdOf w) (rs1Of w) (rs2Of w) s
  | .pbsada => execPbsada (rdOf w) (rs1Of w) (rs2Of w) s
  | .smaqa => execSmaqa (rdOf w) (rs1Of w) (rs2Of w) s
  | .umaqa => execUmaqa (rdOf w) (rs1Of w) (rs2Of w) s
  | .smaqaSu => execSmaqaSu (rdOf w) (rs1Of w) (rs2Of w) s
  | .add64 => execAdd64 (rdOf w) (rs1Of w) (rs2Of w) s
  | .radd64 => execRadd64 (rdOf w) (rs1Of w) (rs2Of w) s
  | .uradd64 => execUradd64 (rdOf w) (rs1Of w) (rs2Of w) s
  | .kadd64 => execKadd64 (rdOf w) (rs1Of w) (rs2Of w) s
  | .ukadd64 => execUkadd64 (rdOf w) (rs1Of w) (rs2Of w) s
  | .sub64 => execSub64 (rdOf w) (rs1Of w) (rs2Of w) s
  | .rsub64 => execRsub64 (rdOf w) (rs1Of w) (rs2Of w) s
  | .ursub64 => execUrsub64 (rdOf w) (rs1Of w) (rs2Of w) s
  | .ksub64 => execKsub64 (rdOf w) (rs1Of w) (rs2Of w) s
  | .uksub64 => execUksub64 (rdOf w) (rs1Of w) (rs2Of w) s
  | .smar64 => execSmar64 (rdOf w) (rs1Of w) (rs2Of w) s
  | .smsr64 => execSmsr64 (rdOf w) (rs1Of w) (rs2Of w) s
  | .umar64 => execUmar64 (rdOf w) (rs1Of w) (rs2Of w) s
  | .umsr64 => execUmsr64 (rdOf w) (rs1Of w) (rs2Of w) s
  | .kmar64 => execKmar64 (rdOf w) (rs1Of w) (rs2Of w) s
  | .kmsr64 => execKmsr64 (rdOf w) (rs1Of w) (rs2Of w) s
  | .ukmar64 => execUkmar64 (rdOf w) (rs1Of w) (rs2Of w) s
  | .ukmsr64 => execUkmsr64 (rdOf w) (rs1Of w) (rs2Of w) s
  | .smalbb => execSmalbb (rdOf w) (rs1Of w) (rs2Of w) s
  | .smalbt => execSmalbt (rdOf w) (rs1Of w) (rs2Of w) s
  | .smaltt => execSmaltt (rdOf w) (rs1Of w) (rs2Of w) s
  | .smalda => execSmalda (rdOf w) (rs1Of w) (rs2Of w) s
  | .smalxda => execSmalxda (rdOf w) (rs1Of w) (rs2Of w) s
  | .smalds => execSmalds (rdOf w) (rs1Of w) (rs2Of w) s
  | .smaldrs => execSmaldrs (rdOf w) (rs1Of w) (rs2Of w) s
  | .smalxds => execSmalxds (rdOf w) (rs1Of w) (rs2Of w) s
  | .smslda => execSmslda (rdOf w) (rs1Of w) (rs2Of w) s
  | .smslxda => execSmslxda (rdOf w) (rs1Of w) (rs2Of w) s
  | .kaddh => execKaddh (rdOf w) (rs1Of w) (rs2Of w) s
  | .ksubh => execKsubh (rdOf w) (rs1Of w) (rs2Of w) s
  | .ukaddh => execUkaddh (rdOf w) (rs1Of w) (rs2Of w) s
  | .uksubh => execUksubh (rdOf w) (rs1Of w) (rs2Of w) s
  | .khmbb => execKhmbb (rdOf w) (rs1Of w) (rs2Of w) s
  | .khmbt => execKhmbt (rdOf w) (rs1Of w) (rs2Of w) s
  | .khmtt => execKhmtt (rdOf w) (rs1Of w) (rs2Of w) s
  | .kaddw => execKaddw (rdOf w) (rs1Of w) (rs2Of w) s
  | .ukaddw => execUkaddw (rdOf w) (rs1Of w) (rs2Of w) s
  | .ksubw => execKsubw (rdOf w) (rs1Of w) (rs2Of w) s
  | .uksubw => execUksubw (rdOf w) (rs1Of w) (rs2Of w) s
  | .kdmbb => execKdmbb (rdOf w) (rs1Of w) (rs2Of w) s
  | .kdmbt => execKdmbt (rdOf w) (rs1Of w) (rs2Of w) s
  | .kdmtt => execKdmtt (rdOf w) (rs1Of w) (rs2Of w) s
  | .kslraw => execKslraw (rdOf w) (rs1Of w) (rs2Of w) s
  | .kslrawU => execKslrawU (rdOf w) (rs1Of w) (rs2Of w) s
  | .ksllw => execKsllw (rdOf w) (rs1Of w) (rs2Of w) s
  | .kslliw => execKslliw (rdOf w) (rs1Of w) (imm5Of w) s
  | .kdmabb => execKdmabb (rdOf w) (rs1Of w) (rs2Of w) s
  | .kdmabt => execKdmabt (rdOf w) (rs1Of w) (rs2Of w) s
  | .kdmatt => execKdmatt (rdOf w) (rs1Of w) (rs2Of w) s
  | .kabsw => execKabsw (rdOf w) (rs1Of w) s
  | .raddw => execRaddw (rdOf w) (rs1Of w) (rs2Of w) s
  | .uraddw => execUraddw (rdOf w) (rs1Of w) (rs2Of w) s
  | .rsubw => execRsubw (rdOf w) (rs1Of w) (rs2Of w) s
  | .ursubw => execUrsubw (rdOf w) (rs1Of w) (rs2Of w) s
  | .mulr64 => execMulr64 (rdOf w) (rs1Of w) (rs2Of w) s
  | .mulsr64 => execMulsr64 (rdOf w) (rs1Of w) (rs2Of w) s
  | .msubr32 => execMsubr32 (rdOf w) (rs1Of w) (rs2Of w) s
  | .ave => execAve (rdOf w) (rs1Of w) (rs2Of w) s
  | .sraU => execSraU (rdOf w) (rs1Of w) (rs2Of w) s
  | .bitrev => execBitrev (rdOf w) (rs1Of w) (rs2Of w) s
  | .bitreviRv32 => execBitreviRv32 (rdOf w) (rs1Of w) (imm5Of w) s
  | .bitreviRv64 => execBitreviRv64 (rdOf w) (rs1Of w) (imm6Of w) s
  | .sraiURv32 => execSraiURv32 (rdOf w) (rs1Of w) (imm5Of w) s
  | .sraiURv64 => execSraiURv64 (rdOf w) (rs1Of w) (imm6Of w) s
  | .insbRv32 => execInsbRv32 (rdOf w) (rs1Of w) (imm2Of w) s
  | .insbRv64 => execInsbRv64 (rdOf w) (rs1Of w) (imm3Of w) s
  | .wext => execWext (rdOf w) (rs1Of w) (rs2Of w) s
  | .wexti => execWexti (rdOf w) (rs1Of w) (imm5Of w) s
  | .maddr32 => execMaddr32 (rdOf w) (rs1Of w) (rs2Of w) s
  | .add32 => execAdd32 (rdOf w) (rs1Of w) (rs2Of w) s
  | .radd32 => execRadd32 (rdOf w) (rs1Of w) (rs2Of w) s
  | .uradd32 => execUradd32 (rdOf w) (rs1Of w) (rs2Of w) s
  | .kadd32 => execKadd32 (rdOf w) (rs1Of w) (rs2Of w) s
  | .ukadd32 => execUkadd32 (rdOf w) (rs1Of w) (rs2Of w) s
  | .sub32 => execSub32 (rdOf w) (rs1Of w) (rs2Of w) s
  | .rsub32 => execRsub32 (rdOf w) (rs1Of w) (rs2Of w) s
  | .ursub32 => execUrsub32 (rdOf w) (rs1Of w) (rs2Of w) s
  | .ksub32 => execKsub32 (rdOf w) (rs1Of w) (rs2Of w) s
  | .uksub32 => execUksub32 (rdOf w) (rs1Of w) (rs2Of w) s
  | .cras32 => execCras32 (rdOf w) (rs1Of w) (rs2Of w) s
  | .rcras32 => execRcras32 (rdOf w) (rs1Of w) (rs2Of w) s
  | .urcras32 => execUrcras32 (rdOf w) (rs1Of w) (rs2Of w) s
  | .kcras32 => execKcras32 (rdOf w) (rs1Of w) (rs2Of w) s
  | .ukcras32 => execUkcras32 (rdOf w) (rs1Of w) (rs2Of w) s
  | .crsa32 => execCrsa32 (rdOf w) (rs1Of w) (rs2Of w) s
  | .rcrsa32 => execRcrsa32 (rdOf w) (rs1Of w) (rs2Of w) s
  | .urcrsa32 => execUrcrsa32 (rdOf w) (rs1Of w) (rs2Of w) s
  | .kcrsa32 => execKcrsa32 (rdOf w) (rs1Of w) (rs2Of w) s
  | .ukcrsa32 => execUkcrsa32 (rdOf w) (rs1Of w) (rs2Of w) s
  | .stas32 => execStas32 (rdOf w) (rs1Of w) (rs2Of w) s
  | .rstas32 => execRstas32 (rdOf w) (rs1Of w) (rs2Of w) s
  | .urstas32 => execUrstas32 (rdOf w) (rs1Of w) (rs2Of w) s
  | .kstas32 => execKstas32 (rdOf w) (rs1Of w) (rs2Of w) s
  | .ukstas32 => execUkstas32 (rdOf w) (rs1Of w) (rs2Of w) s
  | .stsa32 => execStsa32 (rdOf w) (rs1Of w) (rs2Of w) s
  | .rstsa32 => execRstsa32 (rdOf w) (rs1Of w) (rs2Of w) s
  | .urstsa32 => execUrstsa32 (rdOf w) (rs1Of w) (rs2Of w) s
  | .kstsa32 => execKstsa32 (rdOf w) (rs1Of w) (rs2Of w) s
  | .ukstsa32 => execUkstsa32 (rdOf w) (rs1Of w) (rs2Of w) s
  | .sra32 => execSra32 (rdOf w) (rs1Of w) (rs2Of w) s
  | .srai32 => execSrai32 (rdOf w) (rs1Of w) (imm5Of w) s
  | .sra32U => execSra32U (rdOf w) (rs1Of w) (rs2Of w) s
  | .srai32U => execSrai32U (rdOf w) (rs1Of w) (imm5Of w) s
  | .srl32 => execSrl32 (rdOf w) (rs1Of w) (rs2Of w) s
  | .srli32 => execSrli32 (rdOf w) (rs1Of w) (imm5Of w) s
  | .srl32U => execSrl32U (rdOf w) (rs1Of w) (rs2Of w) s
  | .srli32U => execSrli32U (rdOf w) (rs1Of w) (imm5Of w) s
  | .sll32 => execSll32 (rdOf w) (rs1Of w) (rs2Of w) s
  | .slli32 => execSlli32 (rdOf w) (rs1Of w) (imm5Of w) s
  | .ksll32 => execKsll32 (rdOf w) (rs1Of w) (rs2Of w) s
  | .kslli32 => execKslli32 (rdOf w) (rs1Of w) (imm5Of w) s
  | .kslra32 => execKslra32 (rdOf w) (rs1Of w) (rs2Of w) s
  | .kslra32U => execKslra32U (rdOf w) (rs1Of w) (rs2Of w) s
  | .smin32 => execSmin32 (rdOf w) (rs1Of w) (rs2Of w) s
  | .umin32 => execUmin32 (rdOf w) (rs1Of w) (rs2Of w) s
  | .smax32 => execSmax32 (rdOf w) (rs1Of w) (rs2Of w) s
  | .umax32 => execUmax32 (rdOf w) (rs1Of w) (rs2Of w) s
  | .kabs32 => execKabs32 (rdOf w) (rs1Of w) s
  | .khmbb16 => execKhmbb16 (rdOf w) (rs1Of w) (rs2Of w) s
  | .khmbt16 => execKhmbt16 (rdOf w) (rs1Of w) (rs2Of w) s
  | .khmtt16 => execKhmtt16 (rdOf w) (rs1Of w) (rs2Of w) s
  | .kdmbb16 => execKdmbb16 (rdOf w) (rs1Of w) (rs2Of w) s
  | .kdmbt16 => execKdmbt16 (rdOf w) (rs1Of w) (rs2Of w) s
  | .kdmtt16 => execKdmtt16 (rdOf w) (rs1Of w) (rs2Of w) s
  | .kdmabb16 => execKdmabb16 (rdOf w) (rs1Of w) (rs2Of w) s
  | .kdmabt16 => execKdmabt16 (rdOf w) (rs1Of w) (rs2Of w) s
  | .kdmatt16 => execKdmatt16 (rdOf w) (rs1Of w) (rs2Of w) s
  | .smbb32 => execSmbb32 (rdOf w) (rs1Of w) (rs2Of w) s
  | .smbt32 => execSmbt32 (rdOf w) (rs1Of w) (rs2Of w) s
  | .smtt32 => execSmtt32 (rdOf w) (rs1Of w) (rs2Of w) s
  | .kmabb32 => execKmabb32 (rdOf w) (rs1Of w) (rs2Of w) s
  | .kmabt32 => execKmabt32 (rdOf w) (rs1Of w) (rs2Of w) s
  | .kmatt32 => execKmatt32 (rdOf w) (rs1Of w) (rs2Of w) s
  | .kmda32 => execKmda32 (rdOf w) (rs1Of w) (rs2Of w) s
  | .kmxda32 => execKmxda32 (rdOf w) (rs1Of w) (rs2Of w) s
  | .kmada32 => execKmada32 (rdOf w) (rs1Of w) (rs2Of w) s
  | .kmaxda32 => execKmaxda32 (rdOf w) (rs1Of w) (rs2Of w) s
  | .kmads32 => execKmads32 (rdOf w) (rs1Of w) (rs2Of w) s
  | .kmadrs32 => execKmadrs32 (rdOf w) (rs1Of w) (rs2Of w) s
  | .kmaxds32 => execKmaxds32 (rdOf w) (rs1Of w) (rs2Of w) s
  | .kmsda32 => execKmsda32 (rdOf w) (rs1Of w) (rs2Of w) s
  | .kmsxda32 => execKmsxda32 (rdOf w) (rs1Of w) (rs2Of w) s
  | .smds32 => execSmds32 (rdOf w) (rs1Of w) (rs2Of w) s
  | .smdrs32 => execSmdrs32 (rdOf w) (rs1Of w) (rs2Of w) s
  | .smxds32 => execSmxds32 (rdOf w) (rs1Of w) (rs2Of w) s
  | .sraiwU => execSraiwU (rdOf w) (rs1Of w) (imm5Of w) s
  | .pkbb32 => execPkbb32 (rdOf w) (rs2Of w) (rs1Of w) s
  | .pkbt32 => execPkbt32 (rdOf w) (rs1Of w) (rs2Of w) s
  | .pktb32 => execPktb32 (rdOf w) (rs1Of w) (rs2Of w) s
  | .pktt32 => execPktt32 (rdOf w) (rs2Of w) (rs1Of w) s

/-- The two agree, so generated code may use the second. -/
@[csimp] theorem runRow_eq_runRowCode : @runRow = @runRowCode := by
  funext row w s
  cases row <;> rfl

end Sys2Proof.Machine
end

