-- ==== Sys2Proof/Machine/Cycle.lean ====
section
/-!
DEFINITION. One step of the hart: end of run (R583), fetch (R21, R44, R46, R50), the decode-time conditions (R551),
execution; and placing a word where the next step fetches it.
-/

namespace Sys2Proof.Machine

/-- The row a word is on the configured hardware, none when the word is an illegal instruction there (rule R551). -/
def legalRow (c : Config) (w : Word) : Option Row :=
  (decodeRow c.xlen w).filter fun row =>
    rowPresent c row && pairsLegal c row (rdOf w) (rs1Of w) (rs2Of w)

/-- The instruction a word is on the configured hardware (rule R551). -/
noncomputable def decodeLegal (c : Config) (w : Word) : Option Instr :=
  (legalRow c w).map fun row => instrOf row w

/-- The run has reached `END_PC` (rule R583). -/
def State.ended (s : State) : Bool := s.cfg.endPc == some s.pcv

/-- Fetch the word at the pc: alignment, then the access fault, then a byte with no value (rules R44, R46, R50,
R559, R580). -/
def State.fetch (s : State) : Except Fault Word :=
  if !aligned s.pcv 4 then .error (.instructionAddressMisaligned s.pcv s.pcv)
  else if !s.inRegion s.pcv.toNat 4 then .error (.instructionAccessFault s.pcv)
  else
    match Memory.read s.mem s.pcv.toNat 4 with
    | some v => .ok (BitVec.ofNat 32 v)
    | none => .error (.unwrittenMemory s.pcv s.pcv)

/-- Decode and run a fetched word (rules R551, R559). -/
def State.runWord (s : State) (w : Word) : Result :=
  match legalRow s.cfg w with
  | some row => runRow row w s
  | none => raise (.illegalInstruction s.pcv w)

/-- One step (rule R586). At `END_PC` the run is over and the state stays as it is (R583, log entry 5). -/
def State.cycle (s : State) : Result :=
  if s.ended then .next s
  else
    match s.fetch with
    | .ok w => s.runWord w
    | .error record => raise record

/-- The other register width, with Zpsfoperand implemented. -/
def otherWidth (c : Config) : Config :=
  { c with
    xlen := match c.xlen with | .rv32 => .rv64 | .rv64 => .rv32
    zpsf := true }

/-- The first of these configurations in which the word is an instruction: the present one, it with the replaced
encodings kept, the other register width, that with the replaced encodings kept; else the present one (log
entry 7). -/
def configFor (c : Config) (w : Word) : Config :=
  if (legalRow c w).isSome then c
  else if (legalRow { c with keepReplaced := true } w).isSome then { c with keepReplaced := true }
  else if (legalRow (otherWidth c) w).isSome then otherWidth c
  else if (legalRow { otherWidth c with keepReplaced := true } w).isSome then
    { otherWidth c with keepReplaced := true }
  else c

/-- A state in which the next step fetches the word at the pc: its four bytes are loaded, the configuration is one
that has the instruction, and the program does not end there (log entry 7). -/
def State.placeWord (s : State) (w : Word) : State :=
  let t := { s with cfg := { configFor s.cfg w with endPc := none } }
  { t with mem := Memory.write t.mem t.pcv.toNat 4 w.toNat }

end Sys2Proof.Machine
end

