-- ==== Sys2Proof/Machine/Step.lean ====
section
/-!
DEFINITION. The step of the machine and the placing of an instruction where it fetches next; both only call
Machine/Cycle.lean.
-/

namespace Sys2Proof.Machine

/-- One step of the hart (rule R586). -/
def step (s : State) : Host.Outcome State Fault Refusal := s.cycle

/-- The state in which the next step fetches and runs the instruction whose bits are `w` (log entry 7). -/
def State.withFetchWord (s : State) (nbits w : Nat) : State := s.placeWord (BitVec.ofNat 32 (w % 2 ^ nbits))

end Sys2Proof.Machine
end

