-- ==== Sys2Proof/Safety.lean ====
section
/-!
DEFINITION. The terms the statements about this machine use: the invariant of a run, what a completed instruction
leaves as it was (its frame), and what it writes.
-/

namespace Sys2Proof.Machine

open Sys2Proof

/-- What holds in every state of a run: memory is in canonical form and inside the region, `x0` holds zero, every
register and the pc fit in XLEN bits, and the pc is a multiple of 4. -/
structure State.Inv (s : State) : Prop where
  sorted : Memory.wf s.mem = true
  region : ∀ c ∈ s.mem, s.cfg.memBase ≤ c.1 ∧ c.1 < s.cfg.memBase + s.cfg.memSize
  zero : s.regs[0] = 0#64
  fits : ∀ r : Fin 32, wrapX s.cfg.xlen s.regs[r] = s.regs[r]
  pcFits : wrapX s.cfg.xlen s.pc = s.pc
  pcAligned : aligned s.pc 4 = true

/-- The step answers a next state: no exception is raised. -/
def State.Safe (s : State) : Prop := ∃ t, step s = .next t

/-- What every completed instruction that does not store, branch or jump leaves: the parameters, `V`, every GPR but
those it writes (and `x0` always), every byte of memory; and the pc is the next instruction's (rule R21). -/
structure Frame (s t : State) (written : List Reg) : Prop where
  cfg : t.cfg = s.cfg
  v : t.v = s.v
  regs : ∀ r : Reg, r = 0#5 ∨ r ∉ written → t.x r = s.x r
  byte : ∀ a : Nat, t.byte a = s.byte a
  pc : t.pcv = wrapX s.cfg.xlen (s.pcv + 4#64)

/-- `OV` and the VS fields stay as they were. -/
structure FlagsKept (s t : State) : Prop where
  ov : t.ov = s.ov
  vs : t.vs = s.vs
  vsVs : t.vsVs = s.vsVs

/-- The VS fields after an instruction that wrote `vxsat` (rules R553, R554). -/
structure MadeDirty (s t : State) : Prop where
  vs : t.vs = if s.cfg.hasVs then .dirty else s.vs
  vsVs : t.vsVs = if s.virtual then .dirty else s.vsVs

/-- `OV` is set if something clipped and else stays (rules R15, R26); the VS fields become Dirty at each completion
(`VS_DIRTY` = static) or only with a clip (dynamic), as rule R553 says. -/
structure FlagsClip (s t : State) (clip : Prop) : Prop where
  ov : t.ov = true ↔ s.ov = true ∨ clip
  dirty : s.cfg.vsDirty = .static ∨ clip → MadeDirty s t
  kept : s.cfg.vsDirty = .dynamic → ¬clip → t.vs = s.vs ∧ t.vsVs = s.vsVs

/-- The instruction completes, writes only the listed registers and leaves `OV` and VS. -/
def Completes (s : State) (i : Instr) (written : List Reg) (result : State → Prop) : Prop :=
  ∃ t, exec i s = .next t ∧ Frame s t written ∧ FlagsKept s t ∧ result t

/-- While VS does not forbid it, the instruction completes, writes only the listed registers, and sets `OV` exactly
when something clips. -/
def CompletesClip (s : State) (i : Instr) (written : List Reg) (clip : Prop) (result : State → Prop) : Prop :=
  s.vxsatOff = false → ∃ t, exec i s = .next t ∧ Frame s t written ∧ FlagsClip s t clip ∧ result t

/-- The registers that hold `op64(f)`: a pair on RV32, none for the pair of `x0`, one GPR on RV64 (rules R22, R23,
R360). On RV32 an odd field names the pair that its bits 4 to 1 give, so that field 1 names the pair of `x0`: DEDUCED,
the model's choice, since rule R24 leaves odd fields open (log entry 13). -/
def dest64 (s : State) (f : Reg) : List Reg :=
  match s.cfg.xlen with
  | .rv32 => if pairLow f = 0#5 then [] else [pairLow f, pairHigh f]
  | .rv64 => if f = 0#5 then [] else [f]

/-- `k` clipped to [lo, hi]. -/
def clamp (lo hi k : Int) : Int := if k < lo then lo else if hi < k then hi else k

/-- `k` lies outside [lo, hi]. -/
def outside (lo hi k : Int) : Prop := k < lo ∨ hi < k

/-- `k` divided by 2^n and rounded to the nearest integer, halves upwards. -/
def roundShift (k : Int) (n : Nat) : Int := (k + 2 ^ n / 2) / 2 ^ n

/-- The sum of `f` over the words of a GPR. -/
def overWords (s : State) (f : Nat → Int) : Int := ((List.range (s.lanes 32)).map f).sum

/-! Results by lanes. -/

/-- Lane j of `x[rd]` satisfies `p j`, for every lane of width w; a destination `x0` takes nothing. -/
def Lanes (s : State) (i : Instr) (rd : Reg) (w : Nat) (p : Nat → BitVec w → Prop) : Prop :=
  Completes s i [rd] fun t => rd ≠ 0#5 → ∀ j, j < s.lanes w → p j (lane w (t.x rd) j)

/-- The lanes are `f j` modulo 2^w. -/
def LanesMod (s : State) (i : Instr) (rd : Reg) (w : Nat) (f : Nat → Int) : Prop :=
  Lanes s i rd w fun j r => (r.toNat : Int) = f j % 2 ^ w

/-- The lanes, read as signed numbers, are exactly `f j`. -/
def LanesSigned (s : State) (i : Instr) (rd : Reg) (w : Nat) (f : Nat → Int) : Prop :=
  Lanes s i rd w fun j r => r.toInt = f j

/-- The lanes, read as unsigned numbers, are exactly `f j`. -/
def LanesUnsigned (s : State) (i : Instr) (rd : Reg) (w : Nat) (f : Nat → Int) : Prop :=
  Lanes s i rd w fun j r => (r.toNat : Int) = f j

/-- The lanes, read as signed numbers, are `val j`; `OV` is set when some lane has `clip j`. -/
def LanesClip (s : State) (i : Instr) (rd : Reg) (w : Nat) (clip : Nat → Prop) (val : Nat → Int) : Prop :=
  CompletesClip s i [rd] (∃ j, j < s.lanes w ∧ clip j) fun t =>
    rd ≠ 0#5 → ∀ j, j < s.lanes w → (lane w (t.x rd) j).toInt = val j

/-- The lanes are `f j` clipped to [lo, hi], read as signed numbers; `OV` is set when some lane is clipped. -/
def LanesSat (s : State) (i : Instr) (rd : Reg) (w : Nat) (lo hi : Int) (f : Nat → Int) : Prop :=
  LanesClip s i rd w (fun j => outside lo hi (f j)) fun j => clamp lo hi (f j)

/-- The lanes are `f j` clipped to [0, 2^w - 1], read as unsigned numbers; `OV` is set when some lane is clipped. -/
def LanesUnsignedSat (s : State) (i : Instr) (rd : Reg) (w : Nat) (f : Nat → Int) : Prop :=
  CompletesClip s i [rd] (∃ j, j < s.lanes w ∧ outside 0 (2 ^ w - 1) (f j)) fun t =>
    rd ≠ 0#5 → ∀ j, j < s.lanes w → ((lane w (t.x rd) j).toNat : Int) = clamp 0 (2 ^ w - 1) (f j)

/-! Results that fill one GPR. -/

/-- `x[rd]`, read as a signed XLEN-bit number, is `k`. -/
def Signed (s : State) (i : Instr) (rd : Reg) (k : Int) : Prop :=
  Completes s i [rd] fun t => rd ≠ 0#5 → t.sx rd = k

/-- `x[rd]`, read as an unsigned XLEN-bit number, is `k` modulo 2^XLEN. -/
def UnsignedMod (s : State) (i : Instr) (rd : Reg) (k : Int) : Prop :=
  Completes s i [rd] fun t => rd ≠ 0#5 → t.ux rd = k % 2 ^ s.xlen

/-- Bit b of `x[rd]` is `f b`, for each of the XLEN bits. -/
def Bits (s : State) (i : Instr) (rd : Reg) (f : Nat → Bool) : Prop :=
  Completes s i [rd] fun t => rd ≠ 0#5 → ∀ b, b < s.xlen → (t.x rd).getLsbD b = f b

/-- `x[rd]`, read as a signed XLEN-bit number, is `k`; `OV` is set under `clip`. -/
def SignedClip (s : State) (i : Instr) (rd : Reg) (clip : Prop) (k : Int) : Prop :=
  CompletesClip s i [rd] clip fun t => rd ≠ 0#5 → t.sx rd = k

/-- `x[rd]`, read as a signed XLEN-bit number, is `k` clipped to [lo, hi]; `OV` is set when it is clipped. -/
def SignedSat (s : State) (i : Instr) (rd : Reg) (lo hi k : Int) : Prop :=
  SignedClip s i rd (outside lo hi k) (clamp lo hi k)

/-! Results that are 64-bit operands. -/

/-- `op64(rd)` satisfies `p`; the pair of `x0` takes nothing. -/
def Result64 (s : State) (i : Instr) (rd : Reg) (p : XWord → Prop) : Prop :=
  Completes s i (dest64 s rd) fun t => dest64 s rd ≠ [] → p (t.x64 rd)

/-- `op64(rd)` is `k` modulo 2^64. -/
def Mod64 (s : State) (i : Instr) (rd : Reg) (k : Int) : Prop :=
  Result64 s i rd fun r => (r.toNat : Int) = k % 2 ^ 64

/-- `op64(rd)`, read as a signed number, is exactly `k`. -/
def Signed64 (s : State) (i : Instr) (rd : Reg) (k : Int) : Prop :=
  Result64 s i rd fun r => r.toInt = k

/-- The lanes of `op64(rd)`, read as signed numbers, are exactly `f j`. -/
def Lanes64Signed (s : State) (i : Instr) (rd : Reg) (w : Nat) (f : Nat → Int) : Prop :=
  Result64 s i rd fun r => ∀ j, j < 64 / w → (lane w r j).toInt = f j

/-- The lanes of `op64(rd)`, read as unsigned numbers, are exactly `f j`. -/
def Lanes64Unsigned (s : State) (i : Instr) (rd : Reg) (w : Nat) (f : Nat → Int) : Prop :=
  Result64 s i rd fun r => ∀ j, j < 64 / w → ((lane w r j).toNat : Int) = f j

/-- `op64(rd)`, read as a signed number, is `k` clipped to 64 bits; `OV` is set when it is clipped. -/
def Sat64 (s : State) (i : Instr) (rd : Reg) (k : Int) : Prop :=
  CompletesClip s i (dest64 s rd) (outside (-2 ^ 63) (2 ^ 63 - 1) k) fun t =>
    dest64 s rd ≠ [] → (t.x64 rd).toInt = clamp (-2 ^ 63) (2 ^ 63 - 1) k

/-- `op64(rd)`, read as an unsigned number, is `k` clipped to 64 bits; `OV` is set when it is clipped. -/
def UnsignedSat64 (s : State) (i : Instr) (rd : Reg) (k : Int) : Prop :=
  CompletesClip s i (dest64 s rd) (outside 0 (2 ^ 64 - 1) k) fun t =>
    dest64 s rd ≠ [] → ((t.x64 rd).toNat : Int) = clamp 0 (2 ^ 64 - 1) k

/-! The CSR instructions on `vxsat`, and the terms of single rules. -/

/-- The value a read of `vxsat` returns: `OV` in bit 0, zeros above (rule R26). -/
def ovWord (s : State) : XWord := if s.ov then 1#64 else 0#64

/-- While VS does not forbid it, the instruction completes, `x[rd]` takes the old `vxsat`, and nothing writes it. -/
def CsrReads (s : State) (i : Instr) (rd : Reg) : Prop :=
  s.vxsatOff = false → Completes s i [rd] fun t => rd ≠ 0#5 → t.x rd = ovWord s

/-- While VS does not forbid it, the instruction completes, `x[rd]` takes the old `vxsat`, `OV` becomes `ov`, and the
VS fields become Dirty (rules R26, R553). -/
def CsrWrites (s : State) (i : Instr) (rd : Reg) (ov : Bool) : Prop :=
  s.vxsatOff = false → ∃ t, exec i s = .next t ∧ Frame s t [rd] ∧ t.ov = ov ∧ MadeDirty s t ∧
    (rd ≠ 0#5 → t.x rd = ovWord s)

/-- The instruction raises an illegal-instruction exception for the word at the pc (rule R550). -/
def RaisesIllegal (s : State) (i : Instr) : Prop := exec i s = .fault (.illegalInstruction s.pcv s.currentWord)

/-- The value of the top lane of each pair of lanes (odd j), and of the bottom lane (even j). -/
def topBottom {α : Type} (j : Nat) (top bottom : α) : α := if j % 2 = 1 then top else bottom

/-- Bit k of the 64-bit value `{hi, lo}` of two words. -/
def bitOfWords (hi lo : XWord) (k : Nat) : Bool := if k < 32 then lo.getLsbD k else hi.getLsbD (k - 32)

/-- `n` is the number of zero bits above the highest one bit. -/
def LeadingZeros {w : Nat} (v : BitVec w) (n : Nat) : Prop :=
  n ≤ w ∧ (∀ i, i < n → v.getMsbD i = false) ∧ (n < w → v.getMsbD n = true)

/-- `n` is the number of bits right below the sign bit that equal it. -/
def RedundantSigns {w : Nat} (v : BitVec w) (n : Nat) : Prop :=
  n < w ∧ (∀ i, i < n → v.getMsbD (i + 1) = v.msb) ∧ (n + 1 < w → v.getMsbD (n + 1) = !v.msb)

/-- The bytes from `addr` on are these (rule R41). -/
def BytesAt (s : State) (addr : Nat) (bytes : List Byte) : Prop :=
  ∀ k, (h : k < bytes.length) → s.byte (addr + k) = some bytes[k]

/-- The little-endian value of bytes (rule R41). -/
def littleEndian : List Byte → Nat
  | [] => 0
  | b :: rest => b.toNat + 256 * littleEndian rest

/-- The access of n bytes at `addr` is aligned and inside the region (rules R44, R46). -/
def Accessible (s : State) (addr n : Nat) : Prop :=
  addr % n = 0 ∧ s.cfg.memBase ≤ addr ∧ addr + n ≤ s.cfg.memBase + s.cfg.memSize

/-- The instruction completes and stores the n low bytes of `v` at `addr`, and changes nothing else but the pc. -/
def Stores (s : State) (i : Instr) (addr n : Nat) (v : XWord) : Prop :=
  ∃ t, exec i s = .next t ∧ t.cfg = s.cfg ∧ t.v = s.v ∧ (∀ r, t.x r = s.x r) ∧ FlagsKept s t ∧
    t.pcv = wrapX s.cfg.xlen (s.pcv + 4#64) ∧
    ∀ a, t.byte a = if addr ≤ a ∧ a < addr + n then some (lane 8 v (a - addr)) else s.byte a

/-- A fetch at the pc gives the word `w` (rules R44, R46, R50). -/
def Fetches (s : State) (w : Word) : Prop :=
  s.ended = false ∧ Accessible s s.pcv.toNat 4 ∧
    BytesAt s s.pcv.toNat [w.extractLsb' 0 8, w.extractLsb' 8 8, w.extractLsb' 16 8, w.extractLsb' 24 8]

/-! The rows the decode-time rules name, written out from the spec and not read off the model's own row marks. -/

/-- The 40 instructions of Zpsfoperand, in the order of rule R4. -/
def zpsfoperandRows : List Row :=
  [.smal, .add64, .radd64, .uradd64, .kadd64, .ukadd64, .sub64, .rsub64, .ursub64, .ksub64, .uksub64, .smar64,
    .smsr64, .umar64, .umsr64, .kmar64, .kmsr64, .ukmar64, .ukmsr64, .smalbb] ++
  [.smalbt, .smaltt, .smalda, .smalxda, .smalds, .smaldrs, .smalxds, .smslda, .smslxda, .mulr64, .mulsr64,
    .umul8, .umulx8, .umul16, .umulx16, .smul8, .smulx8, .smul16, .smulx16, .wexti]

/-- The rows that need Zpsfoperand: those of rule R4; WEXT, which rule R441 puts there and rule R4 does not (log entry
12); and SMBB32 and KMADA32, whose words are those of MULSR64 and KMAR64 (rules R520, R528). -/
def needZpsfoperandRows : List Row := zpsfoperandRows ++ [.wext, .smbb32, .kmada32]

/-- The removed instructions (rules R114 to R117, decision D14). -/
def removedRows : List Row := [.bpick, .maxw, .minw]

/-- The rows marked "Replaced with ..." at each width (U6, decision D15). -/
def replacedRows : Xlen → List Row
  | .rv32 => [.swap8, .wext, .bitrev, .bitreviRv32, .clz32, .pkbb16, .pktt16, .wexti, .smmul]
  | .rv64 => [.swap8, .wext, .bitrev, .bitreviRv64]

/-- The rows of RV64 alone (rule R71), but for the four whose OP-P words stay on RV32 as replaced ones: first those
with a form or a namesake on RV32 and the doubleword load and store (rules R53, R54), then file 48, then file 49. -/
def rv64OnlyRows : List Row :=
  [.ld, .sd, .fsrw, .revRv64, .bitreviRv64, .sraiURv64, .insbRv64] ++
  [.add32, .radd32, .uradd32, .kadd32, .ukadd32, .sub32, .rsub32, .ursub32, .ksub32, .uksub32, .cras32,
    .rcras32, .urcras32, .kcras32, .ukcras32, .crsa32, .rcrsa32, .urcrsa32, .kcrsa32, .ukcrsa32, .stas32,
    .rstas32, .urstas32, .kstas32, .ukstas32, .stsa32, .rstsa32, .urstsa32, .kstsa32, .ukstsa32, .sra32,
    .srai32, .sra32U, .srai32U, .srl32, .srli32, .srl32U, .srli32U, .sll32, .slli32, .ksll32, .kslli32,
    .kslra32, .kslra32U] ++
  [.smin32, .umin32, .smax32, .umax32, .kabs32, .khmbb16, .khmbt16, .khmtt16, .kdmbb16, .kdmbt16, .kdmtt16,
    .kdmabb16, .kdmabt16, .kdmatt16, .smbb32, .smbt32, .smtt32, .kmabb32, .kmabt32, .kmatt32, .kmda32, .kmxda32,
    .kmada32, .kmaxda32, .kmads32, .kmadrs32, .kmaxds32, .kmsda32, .kmsxda32, .smds32, .smdrs32, .smxds32,
    .sraiwU, .pkbb32, .pkbt32, .pktb32, .pktt32]

/-- The rows of RV32 alone (rule R71). -/
def rv32OnlyRows : List Row :=
  [.add64, .sub64, .clz, .fsr, .fsri, .revRv32, .bitreviRv32, .sraiURv32, .insbRv32, .smmulRv32]

/-- The rows that do not exist at each width (rule R71). -/
def absentRows : Xlen → List Row
  | .rv32 => rv64OnlyRows
  | .rv64 => rv32OnlyRows

/-- The 64-bit additions and subtractions, whose three fields all name 64-bit operands (rules R360, R361). -/
def sums64Rows : List Row :=
  [.add64, .radd64, .uradd64, .kadd64, .ukadd64, .sub64, .rsub64, .ursub64, .ksub64, .uksub64]

/-- The rows whose `rd` names a 64-bit operand: the sums, SMAL (R339), the accumulations of Tables 20 and 21 (R360),
the 32-bit multiplies (R430, R431) and the widening SIMD multiplies of 8 and 16 bits. -/
def pairRdRows : List Row :=
  sums64Rows ++
  [.smal, .smar64, .smsr64, .umar64, .umsr64, .kmar64, .kmsr64, .ukmar64, .ukmsr64, .smalbb, .smalbt, .smaltt,
    .smalda, .smalxda, .smalds, .smaldrs, .smalxds, .smslda, .smslxda, .mulr64, .mulsr64] ++
  [.smul16, .smulx16, .umul16, .umulx16, .smul8, .smulx8, .umul8, .umulx8]

/-- The rows whose `rs1` names a 64-bit operand: the sums, SMAL (R339), WEXT and WEXTI (R441, R442). -/
def pairRs1Rows : List Row := sums64Rows ++ [.smal, .wext, .wexti]

/-- The rows whose `rs2` names a 64-bit operand: the sums. -/
def pairRs2Rows : List Row := sums64Rows

/-- A field of the word that names a 64-bit operand of the row holds an odd register number (rules R22, R24). -/
def OddPairField (row : Row) (w : Word) : Prop :=
  row ∈ pairRdRows ∧ (rdOf w).getLsbD 0 = true ∨ row ∈ pairRs1Rows ∧ (rs1Of w).getLsbD 0 = true ∨
    row ∈ pairRs2Rows ∧ (rs2Of w).getLsbD 0 = true

end Sys2Proof.Machine
end

