-- ==== Sys2Proof/Certificates/Slice0/Obligations.lean ====
section
/-!
DEFINITION. The statements about this machine that are to be proved (OBLIGATIONS.json lists them). Each says which
rules it rests on. Where a statement quantifies over every state it needs no reachability: every meaning is total.
-/

open Sys2Proof Sys2Proof.Machine

/-- After reset of a machine built with any parameters c: the pc is RESET_PC, OV is OV_RESET, VS is VS_RESET, no
byte of memory has a value, and every GPR reads zero. That x1 to x31 read zero, and the reset values of vsVS and V,
are the model's choices (log entries 2 and 3). (70_reset_and_hazards.md R580, 10_state.md R34) -/
def Obligations.ResetLeavesTheParameters : Prop :=
  ∀ c : Config,
    (State.resetWith c).cfg = c ∧ (State.resetWith c).pc = c.resetPc ∧ (State.resetWith c).ov = c.ovReset ∧
    (State.resetWith c).vs = c.vsReset ∧ (State.resetWith c).vsVs = c.vsVsReset ∧ (State.resetWith c).v = c.vReset ∧
    (∀ a, (State.resetWith c).byte a = none) ∧ ∀ r, (State.resetWith c).x r = 0#64

/-- The state after reset satisfies the invariant State.Inv: canonical memory inside the region, x0 zero, registers
and pc within XLEN bits, pc a multiple of 4. The addresses of the default configuration are the model's choice (log
entry 4). (70_reset_and_hazards.md R580, 20_memory.md R44) -/
def Obligations.ResetSatisfiesInvariant : Prop :=
  State.reset.Inv

/-- From every state that satisfies State.Inv, if a step answers a next state, that state satisfies State.Inv:
memory stays in canonical form and inside the region, the stored x0 stays zero, every register and the pc stay
within XLEN bits, and the pc stays a multiple of 4. (10_state.md R20, 10_state.md R21, 20_memory.md R41,
20_memory.md R44, 20_memory.md R46) -/
def Obligations.StepKeepsInvariant : Prop :=
  ∀ s t : State, s.Inv → step s = .next t → t.Inv

/-- Where the four bytes at the pc are those of the word w and the run has not ended: if w is the instruction i on
the configured hardware, the step is exec of i in that state; if w is no instruction of the configured hardware, the
step raises IllegalInstruction(w). (60_exceptions.md R551, 20_memory.md R50, 70_reset_and_hazards.md R586) -/
def Obligations.StepRunsDecodedInstruction : Prop :=
  ∀ (s : State) (w : Word), Fetches s w →
    (∀ i, decodeLegal s.cfg w = some i → step s = exec i s) ∧
    (decodeLegal s.cfg w = none → step s = .fault (.illegalInstruction s.pcv w))

/-- One word of each family, written out from the encoding the spec gives it, decodes to the instruction it stands
for with the operands in their fields. (30_encoding.md, 40_zbpbo.md R102, 41_simd_addsub16.md R135,
42_simd_addsub8_shift.md R184, 45_partial_simd_mul16.md R348, 46_64bit_profile.md R365, 47_nonsimd.md R440,
10_state.md R28, 30_encoding.md R83) -/
def Obligations.DecodeReadsSpecWords : Prop :=
  decode .rv32 0x0090F073#32 = some .clrov ∧
    decode .rv32 0xFE0694E3#32 = some (.bne 13#5 0#5 (BitVec.ofInt 13 (-24))) ∧
    decode .rv64 0x10853C23#32 = some (.sd 8#5 10#5 280#12) ∧
    decode .rv32 0x467312B3#32 = some (.cmix 5#5 6#5 7#5 8#5) ∧
    decode .rv32 0x107302F7#32 = some (.kadd16 5#5 6#5 7#5) ∧
    decode .rv32 0x702302F7#32 = some (.srai16 5#5 6#5 2#4) ∧
    decode .rv32 0xAD1302F7#32 = some (.kabs16 5#5 6#5) ∧
    decode .rv32 0xA0730577#32 = some (.smul16 10#5 6#5 7#5) ∧
    decode .rv32 0xC8628777#32 = some (.smaqa 14#5 5#5 6#5) ∧
    decode .rv64 0x90A51677#32 = some (.kadd64 12#5 10#5 10#5) ∧
    decode .rv64 0xAC4302F7#32 = some (.insbRv64 5#5 6#5 4#3) ∧
    decode .rv64 0x1062A3F7#32 = some (.kadd32 7#5 5#5 6#5) ∧
    decode .rv64 0xDA7312F7#32 = some (.kdmbb16 5#5 6#5 7#5)

/-- For each register width and every well-formed instruction of it, with every operand at every value its field
admits, decoding the encoded word gives the instruction back. (30_encoding.md R60, 30_encoding.md R61,
30_encoding.md R71) -/
def Obligations.DecodeOfEncodeIsTheInstruction : Prop :=
  ∀ (x : Xlen) (i : Instr), wellFormed x i = true → decode x (encode i) = some i

/-- For each register width and every word, if the word decodes to an instruction then the instruction is well
formed at that width and its encoding is the word: no bit of a word is ignored, and no two words are one
instruction. (30_encoding.md R61, 30_encoding.md R70, 30_encoding.md R71) -/
def Obligations.EncodeOfDecodeIsTheWord : Prop :=
  ∀ (x : Xlen) (w : Word) (i : Instr), decode x w = some i → wellFormed x i = true ∧ encode i = w

/-- The rows that do not exist at a width are those of R71: on RV32 the rows of RV64 alone, on RV64 those of RV32
alone. A fetched word raises IllegalInstruction with the word as its info when it matches no row at the configured
XLEN; when its row needs Zpsfoperand and ZPSF is false, the rows being the 40 that R4 lists and WEXT, which R441
puts there (the model's choice, log entry 12); when its row is BPICK, MAXW or MINW; when its row is replaced at the
XLEN and KEEP_REPLACED_ENCODINGS is false, the rows being SWAP8, WEXT, BITREV and BITREVI on both widths and CLZ32,
PKBB16, PKTT16, WEXTI and SMMUL on RV32; and when on RV32 a field that names a 64-bit operand is odd and ODD_PAIR is
illegal, the fields being all three of the 64-bit sums, rd and rs1 of SMAL, rs1 of WEXT and WEXTI, and rd of the
64-bit accumulations, of MULR64 and MULSR64 and of the widening SIMD multiplies. Otherwise the step is exec of the
instruction the word decodes to. (60_exceptions.md R551, 30_encoding.md R70, 30_encoding.md R71, 00_scope.md R4,
10_state.md R22, 10_state.md R24, 46_64bit_profile.md R360, 45_partial_simd_mul16.md R339, 47_nonsimd.md R441,
47_nonsimd.md R442, 40_zbpbo.md R100, 93_implementation_defined.md) -/
def Obligations.IllegalWordsRaise : Prop :=
  (∀ (x : Xlen) (row : Row), known x row = true ↔ row ∉ absentRows x) ∧
  ∀ (s : State) (w : Word), Fetches s w →
    (decode s.cfg.xlen w = none → step s = .fault (.illegalInstruction s.pcv w)) ∧
    ∀ i, decode s.cfg.xlen w = some i →
      (i.row ∈ needZpsfoperandRows → s.cfg.zpsf = false → step s = .fault (.illegalInstruction s.pcv w)) ∧
      (i.row ∈ removedRows → step s = .fault (.illegalInstruction s.pcv w)) ∧
      (i.row ∈ replacedRows s.cfg.xlen → s.cfg.keepReplaced = false →
        step s = .fault (.illegalInstruction s.pcv w)) ∧
      (s.cfg.xlen = .rv32 → s.cfg.oddPair = .illegal → OddPairField i.row w →
        step s = .fault (.illegalInstruction s.pcv w)) ∧
      ((i.row ∈ needZpsfoperandRows → s.cfg.zpsf = true) → i.row ∉ removedRows →
        (i.row ∈ replacedRows s.cfg.xlen → s.cfg.keepReplaced = true) →
        (s.cfg.xlen = .rv64 ∨ s.cfg.oddPair = .ignoreBit0 ∨ ¬OddPairField i.row w) →
        step s = exec i s)

/-- While the run has not ended: a pc that is not a multiple of 4 raises InstructionAddressMisaligned; a pc that is
a multiple of 4 with a byte of the word outside the region raises InstructionAccessFault; a word inside the region
with a byte that nothing has loaded or written stops the run with unwrittenMemory (the model's reading of the
program fault of R580, log entry 6). (20_memory.md R44, 20_memory.md R46, 60_exceptions.md R559,
70_reset_and_hazards.md R580) -/
def Obligations.FetchFaultsInOrder : Prop :=
  ∀ s : State, s.ended = false →
    (s.pcv.toNat % 4 ≠ 0 → step s = .fault (.instructionAddressMisaligned s.pcv s.pcv)) ∧
    (s.pcv.toNat % 4 = 0 →
      ¬(s.cfg.memBase ≤ s.pcv.toNat ∧ s.pcv.toNat + 4 ≤ s.cfg.memBase + s.cfg.memSize) →
      step s = .fault (.instructionAccessFault s.pcv)) ∧
    (Accessible s s.pcv.toNat 4 → (∃ k, k < 4 ∧ s.byte (s.pcv.toNat + k) = none) →
      step s = .fault (.unwrittenMemory s.pcv s.pcv))

/-- When the pc is END_PC the run is over: a step fetches nothing and answers the same state. That the model answers
the same state, rather than no state, is its choice (log entry 5). (70_reset_and_hazards.md R583) -/
def Obligations.RunEndsAtEndPc : Prop :=
  ∀ s : State, s.cfg.endPc = some s.pcv → step s = .next s

/-- The fault records carry the cause code of the privileged architecture, the pc of the instruction, and the info
value: the target or the address for a misaligned or inaccessible access, the pc for a fetch access fault, the
instruction word for an illegal instruction. (60_exceptions.md R557, 60_exceptions.md R550) -/
def Obligations.ExceptionRecords : Prop :=
  ∀ (pc a : XWord) (w : Word),
    (Fault.instructionAddressMisaligned pc a).record = some (0, pc, a) ∧
    (Fault.instructionAccessFault pc).record = some (1, pc, pc) ∧
    (Fault.illegalInstruction pc w).record = some (2, pc, w.setWidth 64) ∧
    (Fault.loadAddressMisaligned pc a).record = some (4, pc, a) ∧
    (Fault.loadAccessFault pc a).record = some (5, pc, a) ∧
    (Fault.storeAddressMisaligned pc a).record = some (6, pc, a) ∧
    (Fault.storeAccessFault pc a).record = some (7, pc, a)

/-- If OV is 1, an instruction completes and OV is then 0, the instruction is CLROV or one of the CSR instructions
on vxsat; no other instruction clears OV. (00_scope.md R15, 10_state.md R26) -/
def Obligations.OnlyVxsatWritesClearOv : Prop :=
  ∀ (i : Instr) (s t : State), exec i s = .next t → s.ov = true → t.ov = false → (rowInfo i.row).vxsat = .csr

/-- An instruction outside the vxsat-accessing class (the OV-setting instructions, RDOV, CLROV and the CSR
instructions on vxsat) that completes leaves OV, mstatus.VS and vsstatus.VS as they were. (10_state.md R26,
60_exceptions.md R552, 60_exceptions.md R553, 60_exceptions.md R555) -/
def Obligations.OnlyVxsatClassTouchesFlags : Prop :=
  ∀ (i : Instr) (s t : State), accessesVxsat i.row = false → exec i s = .next t → FlagsKept s t

/-- For every instruction of the vxsat-accessing class and every state: if mstatus.VS is implemented and Off, or
vsstatus.VS is implemented, V is 1 and it is Off, the instruction raises IllegalInstruction, whatever its operands
hold. An instruction outside the class (the removed ones apart) behaves the same whether VS is Off or not: it
completes in the same states, with VS alone different. (60_exceptions.md R552, 60_exceptions.md R554) -/
def Obligations.VsOffMakesVxsatAccessIllegal : Prop :=
  (∀ (i : Instr) (s : State), accessesVxsat i.row = true →
      (s.cfg.hasVs = true ∧ s.vs = .off) ∨
        (s.cfg.hasVs = true ∧ s.cfg.hasH = true ∧ s.v = true ∧ s.vsVs = .off) →
      RaisesIllegal s i) ∧
    ∀ (i : Instr) (s t : State) (vs vsVs : VState), accessesVxsat i.row = false → exec i s = .next t →
      exec i { s with vs := vs, vsVs := vsVs } = .next { t with vs := vs, vsVs := vsVs }

/-- When VS_DIRTY is static, an OV-setting instruction or CLROV that completes leaves mstatus.VS Dirty where it is
implemented, and vsstatus.VS Dirty where it is implemented and V is 1. When VS_DIRTY is dynamic, an OV-setting
instruction that completes with OV still 0 leaves both fields as they were. (60_exceptions.md R553, 60_exceptions.md
R554) -/
def Obligations.WritingVxsatMakesVsDirty : Prop :=
  (∀ (i : Instr) (s t : State), (rowInfo i.row).vxsat = .mayClip ∨ i = .clrov → exec i s = .next t →
      s.cfg.vsDirty = .static → MadeDirty s t) ∧
    ∀ (i : Instr) (s t : State), (rowInfo i.row).vxsat = .mayClip → exec i s = .next t →
      s.cfg.vsDirty = .dynamic → t.ov = false → t.vs = s.vs ∧ t.vsVs = s.vsVs

/-- In every step that answers a next state, mstatus.VS and vsstatus.VS each stay or become Dirty, and a field that
is Off stays Off; the parameters and V never change. (70_reset_and_hazards.md R581, 60_exceptions.md R553,
60_exceptions.md R554, 10_state.md R30) -/
def Obligations.VsOnlyBecomesDirty : Prop :=
  ∀ s t : State, step s = .next t →
    t.cfg = s.cfg ∧ t.v = s.v ∧ (t.vs = s.vs ∨ t.vs = .dirty) ∧ (t.vsVs = s.vsVs ∨ t.vsVs = .dirty) ∧
    (s.vs = .off → t.vs = .off) ∧ (s.vsVs = .off → t.vsVs = .off)

/-- Every instruction of files 10 and 40 to 49 that is not removed, and ADDI and LUI, completes in a state exactly
when it does not access vxsat there while VS forbids it: no operand value, alignment or overflow makes it stop.
(60_exceptions.md R556, 60_exceptions.md R552) -/
def Obligations.NoDataDependentException : Prop :=
  ∀ (i : Instr) (s : State), presence .rv32 i.row ≠ .removed → i.row ∉ [.lw, .sw, .ld, .sd, .bne] →
    ((∃ t, exec i s = .next t) ↔ (accessesVxsat i.row = false ∨ s.vxsatOff = false))

/-- Every instruction but LW, SW, LD and SD that completes leaves every byte of memory, and completes in the same
way from the same state with any other memory. (20_memory.md R40) -/
def Obligations.OnlyStoresTouchMemory : Prop :=
  ∀ (i : Instr) (s t : State), i.row ∉ [.lw, .sw, .ld, .sd] → exec i s = .next t →
    t.mem = s.mem ∧ ∀ m, exec i { s with mem := m } = .next { t with mem := m }

/-- On RV32 x0 as a 64-bit operand is 64 bits of zero, whatever x1 holds, and a 64-bit result written to x0 changes
nothing, x1 included. (R23) -/
def Obligations.PairOfZeroRegister : Prop :=
  ∀ (s : State) (v : XWord), s.cfg.xlen = .rv32 → s.x64 0#5 = 0#64 ∧ s.setX64 0#5 v = s

/-- RDOV is CSRRS from x0 and CLROV is CSRRCI of 1 into x0; SWAP16 is PKBT16 of one register with itself and SWAP8
is REV8.H; on RV64 SMBB32, KMADA32, PKBB32 and PKTT32 have the words and the effects of MULSR64, KMAR64, PACK and
PACKU; on RV32 SMMUL is the RV32 SMMUL, PKBB16 is PACK and PKTT16 is PACKU with the sources exchanged, and CLZ32 is
CLZ. (10_state.md R27, 10_state.md R28, 30_encoding.md R79, 40_zbpbo.md R100, 40_zbpbo.md R113,
43_simd_cmp_misc_unpack.md R244, 43_simd_cmp_misc_unpack.md R259) -/
def Obligations.SharedWordsAgree : Prop :=
  (∀ (s : State) (rd : Reg), exec (.rdov rd) s = exec (.csrrs rd 0#5) s) ∧
    (∀ s : State, exec .clrov s = exec (.csrrci 0#5 1#5) s) ∧
    (∀ (s : State) (rd rs1 : Reg), exec (.swap16 rd rs1) s = exec (.pkbt16 rd rs1 rs1) s ∧
      exec (.swap8 rd rs1) s = exec (.rev8H rd rs1) s) ∧
    (∀ (s : State) (rd rs1 rs2 : Reg), s.cfg.xlen = .rv64 →
      encode (.smbb32 rd rs1 rs2) = encode (.mulsr64 rd rs1 rs2) ∧
      exec (.smbb32 rd rs1 rs2) s = exec (.mulsr64 rd rs1 rs2) s ∧
      encode (.kmada32 rd rs1 rs2) = encode (.kmar64 rd rs1 rs2) ∧
      exec (.kmada32 rd rs1 rs2) s = exec (.kmar64 rd rs1 rs2) s ∧
      encode (.pkbb32 rd rs1 rs2) = encode (.pack rd rs2 rs1) ∧
      exec (.pkbb32 rd rs1 rs2) s = exec (.pack rd rs2 rs1) s ∧
      encode (.pktt32 rd rs1 rs2) = encode (.packu rd rs2 rs1) ∧
      exec (.pktt32 rd rs1 rs2) s = exec (.packu rd rs2 rs1) s) ∧
    ∀ (s : State) (rd rs1 rs2 : Reg), s.cfg.xlen = .rv32 →
      exec (.smmulRv32 rd rs1 rs2) s = exec (.smmul rd rs1 rs2) s ∧
      exec (.pkbb16 rd rs1 rs2) s = exec (.pack rd rs2 rs1) s ∧
      exec (.pktt16 rd rs1 rs2) s = exec (.packu rd rs2 rs1) s ∧
      exec (.clz32 rd rs1) s = exec (.clz rd rs1) s

/-- BPICK, MAXW and MINW raise IllegalInstruction in every state, with every operand; and a step that fetches one of
their words raises it too. (40_zbpbo.md R114, 60_exceptions.md R551) -/
def Obligations.RemovedInstructionsAreIllegal : Prop :=
  ∀ (s : State) (rd rs1 rs2 rc : Reg),
    RaisesIllegal s (.bpick rd rs1 rs2 rc) ∧ RaisesIllegal s (.maxw rd rs1 rs2) ∧
    RaisesIllegal s (.minw rd rs1 rs2) ∧
    ∀ i ∈ [Instr.bpick rd rs1 rs2 rc, .maxw rd rs1 rs2, .minw rd rs1 rs2], Fetches s (encode i) →
      step s = .fault (.illegalInstruction s.pcv (encode i))

/-- RDOV and CLROV have the encodings of CSRRS rd, vxsat, x0 and CSRRCI x0, vxsat, 1. RDOV writes OV, zero-extended,
to rd and writes neither OV nor VS; CLROV sets OV to 0, writes no GPR, and makes VS Dirty. While VS is Off both are
illegal. (R27, R28) -/
def Obligations.RdovAndClrov : Prop :=
  ∀ (s : State) (rd : Reg),
    encode (.rdov rd) = 0b000000001001#12 ++ 0b00000#5 ++ 0b010#3 ++ rd ++ 0b1110011#7 ∧
    encode .clrov = 0x0090F073#32 ∧
    CsrReads s (.rdov rd) rd ∧
    (s.vxsatOff = false → ∃ t, exec .clrov s = .next t ∧ Frame s t [] ∧ t.ov = false ∧ MadeDirty s t) ∧
    (s.vxsatOff = true → RaisesIllegal s (.rdov rd) ∧ RaisesIllegal s .clrov)

/-- Each returns the old OV, zero-extended, in rd. CSRRW and CSRRWI set OV to bit 0 of the source; CSRRS and CSRRSI
or it in, CSRRC and CSRRCI clear it where the bit is 1; each such write makes VS Dirty. A set or clear with source
x0 or immediate 0 does not write. (10_state.md R26, 10_state.md R29, 60_exceptions.md R553) -/
def Obligations.CsrAccessToVxsat : Prop :=
  ∀ (s : State) (rd rs1 : Reg) (u : BitVec 5),
    CsrWrites s (.csrrw rd rs1) rd ((s.x rs1).getLsbD 0) ∧
    CsrWrites s (.csrrwi rd u) rd (u.getLsbD 0) ∧
    (rs1 ≠ 0#5 → CsrWrites s (.csrrs rd rs1) rd (s.ov || (s.x rs1).getLsbD 0)) ∧
    (rs1 ≠ 0#5 → CsrWrites s (.csrrc rd rs1) rd (s.ov && !(s.x rs1).getLsbD 0)) ∧
    (u ≠ 0#5 → CsrWrites s (.csrrsi rd u) rd (s.ov || u.getLsbD 0)) ∧
    (u ≠ 0#5 → CsrWrites s (.csrrci rd u) rd (s.ov && !u.getLsbD 0)) ∧
    CsrReads s (.csrrs rd 0#5) rd ∧ CsrReads s (.csrrc rd 0#5) rd ∧
    CsrReads s (.csrrsi rd 0#5) rd ∧ CsrReads s (.csrrci rd 0#5) rd

/-- The effective address is the unsigned value of x[rs1] plus the signed immediate, modulo 2^XLEN. At an address
that is a multiple of the size and inside the region, whose bytes have these values: LW writes the little-endian
word, sign-extended to XLEN, and on RV64 LD the little-endian doubleword, to rd, and changes nothing else. A
misaligned address raises LoadAddressMisaligned, else one outside the region LoadAccessFault, with the address.
(20_memory.md R51, 20_memory.md R53, 20_memory.md R44, 20_memory.md R46, 60_exceptions.md R559) -/
def Obligations.LoadsReadMemory : Prop :=
  ∀ (s : State) (rd rs1 : Reg) (imm : BitVec 12) (bytes : List Byte),
    ((s.effAddr rs1 imm).toNat : Int) = (s.ux rs1 + imm.toInt) % 2 ^ s.xlen ∧
    (bytes.length = 4 → Accessible s (s.effAddr rs1 imm).toNat 4 → BytesAt s (s.effAddr rs1 imm).toNat bytes →
      Signed s (.lw rd rs1 imm) rd (BitVec.ofNat 32 (littleEndian bytes)).toInt) ∧
    (s.cfg.xlen = .rv64 → bytes.length = 8 → Accessible s (s.effAddr rs1 imm).toNat 8 →
      BytesAt s (s.effAddr rs1 imm).toNat bytes →
      Completes s (.ld rd rs1 imm) [rd] fun t => rd ≠ 0#5 → (t.x rd).toNat = littleEndian bytes) ∧
    ((s.effAddr rs1 imm).toNat % 4 ≠ 0 →
      exec (.lw rd rs1 imm) s = .fault (.loadAddressMisaligned s.pcv (s.effAddr rs1 imm))) ∧
    ((s.effAddr rs1 imm).toNat % 8 ≠ 0 →
      exec (.ld rd rs1 imm) s = .fault (.loadAddressMisaligned s.pcv (s.effAddr rs1 imm))) ∧
    ((s.effAddr rs1 imm).toNat % 4 = 0 → ¬Accessible s (s.effAddr rs1 imm).toNat 4 →
      exec (.lw rd rs1 imm) s = .fault (.loadAccessFault s.pcv (s.effAddr rs1 imm))) ∧
    ((s.effAddr rs1 imm).toNat % 8 = 0 → ¬Accessible s (s.effAddr rs1 imm).toNat 8 →
      exec (.ld rd rs1 imm) s = .fault (.loadAccessFault s.pcv (s.effAddr rs1 imm)))

/-- The effective address is the unsigned value of x[rs1] plus the signed immediate, modulo 2^XLEN. At an address
that is a multiple of the size and inside the region: SW stores the low four bytes and SD all eight bytes of x[rs2],
the lowest first, from the effective address on, and changes no other byte and no register. A misaligned address
raises StoreAddressMisaligned, else one outside the region StoreAccessFault, with the address. (20_memory.md R52,
20_memory.md R54, 20_memory.md R41, 20_memory.md R44, 20_memory.md R46, 60_exceptions.md R559) -/
def Obligations.StoresWriteMemory : Prop :=
  ∀ (s : State) (rs2 rs1 : Reg) (imm : BitVec 12),
    ((s.effAddr rs1 imm).toNat : Int) = (s.ux rs1 + imm.toInt) % 2 ^ s.xlen ∧
    (Accessible s (s.effAddr rs1 imm).toNat 4 →
      Stores s (.sw rs2 rs1 imm) (s.effAddr rs1 imm).toNat 4 (s.x rs2)) ∧
    (Accessible s (s.effAddr rs1 imm).toNat 8 →
      Stores s (.sd rs2 rs1 imm) (s.effAddr rs1 imm).toNat 8 (s.x rs2)) ∧
    ((s.effAddr rs1 imm).toNat % 4 ≠ 0 →
      exec (.sw rs2 rs1 imm) s = .fault (.storeAddressMisaligned s.pcv (s.effAddr rs1 imm))) ∧
    ((s.effAddr rs1 imm).toNat % 8 ≠ 0 →
      exec (.sd rs2 rs1 imm) s = .fault (.storeAddressMisaligned s.pcv (s.effAddr rs1 imm))) ∧
    ((s.effAddr rs1 imm).toNat % 4 = 0 → ¬Accessible s (s.effAddr rs1 imm).toNat 4 →
      exec (.sw rs2 rs1 imm) s = .fault (.storeAccessFault s.pcv (s.effAddr rs1 imm))) ∧
    ((s.effAddr rs1 imm).toNat % 8 = 0 → ¬Accessible s (s.effAddr rs1 imm).toNat 8 →
      exec (.sd rs2 rs1 imm) s = .fault (.storeAccessFault s.pcv (s.effAddr rs1 imm)))

/-- After SW, LW from the same base register and offset gives the stored word, sign-extended; on RV64 after SD, LD
gives the stored doubleword. (20_memory.md R41, 20_memory.md R51, 20_memory.md R52, 20_memory.md R53, 20_memory.md
R54) -/
def Obligations.StoredWordLoadsBack : Prop :=
  ∀ (s t : State) (rd rs2 rs1 : Reg) (imm : BitVec 12),
    (exec (.sw rs2 rs1 imm) s = .next t →
      Signed t (.lw rd rs1 imm) rd ((s.x rs2).setWidth 32).toInt) ∧
    (s.cfg.xlen = .rv64 → exec (.sd rs2 rs1 imm) s = .next t →
      Completes t (.ld rd rs1 imm) [rd] fun u => rd ≠ 0#5 → u.x rd = s.x rs2)

/-- ADDI has the encoding imm rs1 000 rd 0010011 and writes the sum of x[rs1] and the sign-extended immediate,
modulo 2^XLEN; LUI has the encoding imm rd 0110111 and writes the immediate times 2^12, read as a signed 32-bit
number. Neither changes a flag or traps. (R81, R82) -/
def Obligations.AddiAndLui : Prop :=
  ∀ (s : State) (rd rs1 : Reg) (imm : BitVec 12) (up : BitVec 20),
    encode (.addi rd rs1 imm) = imm ++ rs1 ++ 0b000#3 ++ rd ++ 0b0010011#7 ∧
    UnsignedMod s (.addi rd rs1 imm) rd (s.sx rs1 + imm.toInt) ∧
    encode (.lui rd up) = up ++ rd ++ 0b0110111#7 ∧
    Signed s (.lui rd up) rd (up.toInt * 2 ^ 12)

/-- BNE has the encoding imm[12] imm[10:5] rs2 rs1 001 imm[4:1] imm[11] 1100011. Where x[rs1] and x[rs2] differ and
the target is a multiple of 4, BNE continues at its own address plus the signed offset, modulo 2^XLEN; where they
are equal, at the next instruction; where they differ and the target is not a multiple of 4, it raises
InstructionAddressMisaligned with the target. It writes no register, no flag and no memory. (R83) -/
def Obligations.BneBranches : Prop :=
  (∀ (rs1 rs2 : Reg) (offset : BitVec 13),
      encode (.bne rs1 rs2 offset) = offset.extractLsb' 12 1 ++ offset.extractLsb' 5 6 ++ rs2 ++ rs1 ++ 0b001#3 ++
        offset.extractLsb' 1 4 ++ offset.extractLsb' 11 1 ++ 0b1100011#7) ∧
  ∀ (s : State) (rs1 rs2 : Reg) (offset : BitVec 13) (target : XWord),
    target.toNat < 2 ^ s.xlen → (target.toNat : Int) = ((s.pcv.toNat : Int) + offset.toInt) % 2 ^ s.xlen →
    (s.x rs1 ≠ s.x rs2 → target.toNat % 4 = 0 →
      ∃ t, exec (.bne rs1 rs2 offset) s = .next t ∧ t.cfg = s.cfg ∧ t.v = s.v ∧ (∀ r, t.x r = s.x r) ∧
        FlagsKept s t ∧ (∀ a, t.byte a = s.byte a) ∧ t.pcv = target) ∧
    (s.x rs1 ≠ s.x rs2 → target.toNat % 4 ≠ 0 →
      exec (.bne rs1 rs2 offset) s = .fault (.instructionAddressMisaligned s.pcv target)) ∧
    (s.x rs1 = s.x rs2 → ∃ t, exec (.bne rs1 rs2 offset) s = .next t ∧ Frame s t [] ∧ FlagsKept s t)

/-- CMIX takes each bit from x[rs1] where the mask x[rs2] is 1, else from x[rs3]. FSR, FSRI and FSRW rotate the 64
bits {x[rs3].W[0], x[rs1].W[0]} right by 0 to 63 and write the low word, sign-extended. PACK and PACKU join the
bottom, or top, halves with x[rs2]'s on top. REV reverses the XLEN bits; REV8.H swaps the bytes of each halfword.
(40_zbpbo.md R102, 40_zbpbo.md R103, 40_zbpbo.md R104, 40_zbpbo.md R106, 40_zbpbo.md R109, 40_zbpbo.md R110,
40_zbpbo.md R112, 40_zbpbo.md R113) -/
def Obligations.ZbpboBitSelection : Prop :=
  ∀ (s : State) (rd rs1 rs2 rs3 : Reg) (imm : BitVec 6),
    Bits s (.cmix rd rs1 rs2 rs3) rd
      (fun b => if (s.x rs2).getLsbD b then (s.x rs1).getLsbD b else (s.x rs3).getLsbD b) ∧
    Bits s (.fsr rd rs1 rs2 rs3) rd
      (fun b => bitOfWords (s.x rs3) (s.x rs1) ((min b 31 + (s.x rs2).toNat % 64) % 64)) ∧
    Bits s (.fsri rd rs1 rs3 imm) rd
      (fun b => bitOfWords (s.x rs3) (s.x rs1) ((min b 31 + imm.toNat) % 64)) ∧
    Bits s (.fsrw rd rs1 rs2 rs3) rd
      (fun b => bitOfWords (s.x rs3) (s.x rs1) ((min b 31 + (s.x rs2).toNat % 64) % 64)) ∧
    Bits s (.pack rd rs1 rs2) rd
      (fun b => if b < s.xlen / 2 then (s.x rs1).getLsbD b else (s.x rs2).getLsbD (b - s.xlen / 2)) ∧
    Bits s (.packu rd rs1 rs2) rd
      (fun b => if b < s.xlen / 2 then (s.x rs1).getLsbD (b + s.xlen / 2) else (s.x rs2).getLsbD b) ∧
    (s.cfg.xlen = .rv32 → Bits s (.revRv32 rd rs1) rd fun b => (s.x rs1).getLsbD (31 - b)) ∧
    (s.cfg.xlen = .rv64 → Bits s (.revRv64 rd rs1) rd fun b => (s.x rs1).getLsbD (63 - b)) ∧
    Lanes s (.rev8H rd rs1) rd 8 fun j r => r = lane 8 (s.x rs1) (topBottom j (j - 1) (j + 1))

/-- CLZ writes the number of zero bits above the highest one bit of the 32-bit x[rs1] (32 for zero); MAX and MIN
write the greater and the smaller of the signed XLEN-bit values. (40_zbpbo.md R101, 40_zbpbo.md R107, 40_zbpbo.md
R108) -/
def Obligations.ClzMaxMin : Prop :=
  ∀ (s : State) (rd rs1 rs2 : Reg),
    (Completes s (.clz rd rs1) [rd] fun t =>
      rd ≠ 0#5 → LeadingZeros ((s.x rs1).setWidth 32) (t.x rd).toNat) ∧
    Signed s (.max rd rs1 rs2) rd (max (s.sx rs1) (s.sx rs2)) ∧
    Signed s (.min rd rs1 rs2) rd (min (s.sx rs1) (s.sx rs2))

/-- For the 8-, 16- and 32-bit additions and subtractions, and the crossed and straight additions with subtraction
(the top lane of each pair takes the first operation, the bottom lane the second; the crossed forms take the other
lane of x[rs2]): each lane is the result modulo 2^w; OV is not written. (41_simd_addsub16.md R130,
41_simd_addsub16.md R131, 42_simd_addsub8_shift.md, 48_rv64_addsub_shift.md) -/
def Obligations.WrappingLaneArithmetic : Prop :=
  ∀ (s : State) (rd rs1 rs2 : Reg),
    LanesMod s (.add8 rd rs1 rs2) rd 8 (fun j => s.ul 8 rs1 j + s.ul 8 rs2 j) ∧
    LanesMod s (.sub8 rd rs1 rs2) rd 8 (fun j => s.ul 8 rs1 j - s.ul 8 rs2 j) ∧
    LanesMod s (.add16 rd rs1 rs2) rd 16 (fun j => s.ul 16 rs1 j + s.ul 16 rs2 j) ∧
    LanesMod s (.sub16 rd rs1 rs2) rd 16 (fun j => s.ul 16 rs1 j - s.ul 16 rs2 j) ∧
    LanesMod s (.cras16 rd rs1 rs2) rd 16 (fun j =>
      topBottom j (s.ul 16 rs1 j + s.ul 16 rs2 (j - 1)) (s.ul 16 rs1 j - s.ul 16 rs2 (j + 1))) ∧
    LanesMod s (.crsa16 rd rs1 rs2) rd 16 (fun j =>
      topBottom j (s.ul 16 rs1 j - s.ul 16 rs2 (j - 1)) (s.ul 16 rs1 j + s.ul 16 rs2 (j + 1))) ∧
    LanesMod s (.stas16 rd rs1 rs2) rd 16 (fun j =>
      topBottom j (s.ul 16 rs1 j + s.ul 16 rs2 j) (s.ul 16 rs1 j - s.ul 16 rs2 j)) ∧
    LanesMod s (.stsa16 rd rs1 rs2) rd 16 (fun j =>
      topBottom j (s.ul 16 rs1 j - s.ul 16 rs2 j) (s.ul 16 rs1 j + s.ul 16 rs2 j)) ∧
    LanesMod s (.add32 rd rs1 rs2) rd 32 (fun j => s.ul 32 rs1 j + s.ul 32 rs2 j) ∧
    LanesMod s (.sub32 rd rs1 rs2) rd 32 (fun j => s.ul 32 rs1 j - s.ul 32 rs2 j) ∧
    LanesMod s (.cras32 rd rs1 rs2) rd 32 (fun j =>
      topBottom j (s.ul 32 rs1 j + s.ul 32 rs2 (j - 1)) (s.ul 32 rs1 j - s.ul 32 rs2 (j + 1))) ∧
    LanesMod s (.crsa32 rd rs1 rs2) rd 32 (fun j =>
      topBottom j (s.ul 32 rs1 j - s.ul 32 rs2 (j - 1)) (s.ul 32 rs1 j + s.ul 32 rs2 (j + 1))) ∧
    LanesMod s (.stas32 rd rs1 rs2) rd 32 (fun j =>
      topBottom j (s.ul 32 rs1 j + s.ul 32 rs2 j) (s.ul 32 rs1 j - s.ul 32 rs2 j)) ∧
    LanesMod s (.stsa32 rd rs1 rs2) rd 32 (fun j =>
      topBottom j (s.ul 32 rs1 j - s.ul 32 rs2 j) (s.ul 32 rs1 j + s.ul 32 rs2 j))

/-- For the signed halving forms of the 8-, 16- and 32-bit additions and subtractions, and the crossed and straight
additions with subtraction (the top lane of each pair takes the first operation, the bottom lane the second; the
crossed forms take the other lane of x[rs2]): each lane is exactly the signed result divided by 2, rounded down; OV
is not written. (41_simd_addsub16.md R130, 41_simd_addsub16.md R131, 42_simd_addsub8_shift.md,
48_rv64_addsub_shift.md) -/
def Obligations.SignedHalvingLaneArithmetic : Prop :=
  ∀ (s : State) (rd rs1 rs2 : Reg),
    LanesSigned s (.radd8 rd rs1 rs2) rd 8 (fun j => (s.sl 8 rs1 j + s.sl 8 rs2 j) / 2) ∧
    LanesSigned s (.rsub8 rd rs1 rs2) rd 8 (fun j => (s.sl 8 rs1 j - s.sl 8 rs2 j) / 2) ∧
    LanesSigned s (.radd16 rd rs1 rs2) rd 16 (fun j => (s.sl 16 rs1 j + s.sl 16 rs2 j) / 2) ∧
    LanesSigned s (.rsub16 rd rs1 rs2) rd 16 (fun j => (s.sl 16 rs1 j - s.sl 16 rs2 j) / 2) ∧
    LanesSigned s (.rcras16 rd rs1 rs2) rd 16 (fun j =>
      (topBottom j (s.sl 16 rs1 j + s.sl 16 rs2 (j - 1)) (s.sl 16 rs1 j - s.sl 16 rs2 (j + 1))) / 2) ∧
    LanesSigned s (.rcrsa16 rd rs1 rs2) rd 16 (fun j =>
      (topBottom j (s.sl 16 rs1 j - s.sl 16 rs2 (j - 1)) (s.sl 16 rs1 j + s.sl 16 rs2 (j + 1))) / 2) ∧
    LanesSigned s (.rstas16 rd rs1 rs2) rd 16 (fun j =>
      (topBottom j (s.sl 16 rs1 j + s.sl 16 rs2 j) (s.sl 16 rs1 j - s.sl 16 rs2 j)) / 2) ∧
    LanesSigned s (.rstsa16 rd rs1 rs2) rd 16 (fun j =>
      (topBottom j (s.sl 16 rs1 j - s.sl 16 rs2 j) (s.sl 16 rs1 j + s.sl 16 rs2 j)) / 2) ∧
    LanesSigned s (.radd32 rd rs1 rs2) rd 32 (fun j => (s.sl 32 rs1 j + s.sl 32 rs2 j) / 2) ∧
    LanesSigned s (.rsub32 rd rs1 rs2) rd 32 (fun j => (s.sl 32 rs1 j - s.sl 32 rs2 j) / 2) ∧
    LanesSigned s (.rcras32 rd rs1 rs2) rd 32 (fun j =>
      (topBottom j (s.sl 32 rs1 j + s.sl 32 rs2 (j - 1)) (s.sl 32 rs1 j - s.sl 32 rs2 (j + 1))) / 2) ∧
    LanesSigned s (.rcrsa32 rd rs1 rs2) rd 32 (fun j =>
      (topBottom j (s.sl 32 rs1 j - s.sl 32 rs2 (j - 1)) (s.sl 32 rs1 j + s.sl 32 rs2 (j + 1))) / 2) ∧
    LanesSigned s (.rstas32 rd rs1 rs2) rd 32 (fun j =>
      (topBottom j (s.sl 32 rs1 j + s.sl 32 rs2 j) (s.sl 32 rs1 j - s.sl 32 rs2 j)) / 2) ∧
    LanesSigned s (.rstsa32 rd rs1 rs2) rd 32 (fun j =>
      (topBottom j (s.sl 32 rs1 j - s.sl 32 rs2 j) (s.sl 32 rs1 j + s.sl 32 rs2 j)) / 2)

/-- For the unsigned halving forms of the 8-, 16- and 32-bit additions and subtractions, and the crossed and
straight additions with subtraction (the top lane of each pair takes the first operation, the bottom lane the
second; the crossed forms take the other lane of x[rs2]): each lane is the result divided by 2, rounded down, modulo
2^w; OV is not written. (41_simd_addsub16.md R130, 41_simd_addsub16.md R131, 42_simd_addsub8_shift.md,
48_rv64_addsub_shift.md) -/
def Obligations.UnsignedHalvingLaneArithmetic : Prop :=
  ∀ (s : State) (rd rs1 rs2 : Reg),
    LanesMod s (.uradd8 rd rs1 rs2) rd 8 (fun j => (s.ul 8 rs1 j + s.ul 8 rs2 j) / 2) ∧
    LanesMod s (.ursub8 rd rs1 rs2) rd 8 (fun j => (s.ul 8 rs1 j - s.ul 8 rs2 j) / 2) ∧
    LanesMod s (.uradd16 rd rs1 rs2) rd 16 (fun j => (s.ul 16 rs1 j + s.ul 16 rs2 j) / 2) ∧
    LanesMod s (.ursub16 rd rs1 rs2) rd 16 (fun j => (s.ul 16 rs1 j - s.ul 16 rs2 j) / 2) ∧
    LanesMod s (.urcras16 rd rs1 rs2) rd 16 (fun j =>
      (topBottom j (s.ul 16 rs1 j + s.ul 16 rs2 (j - 1)) (s.ul 16 rs1 j - s.ul 16 rs2 (j + 1))) / 2) ∧
    LanesMod s (.urcrsa16 rd rs1 rs2) rd 16 (fun j =>
      (topBottom j (s.ul 16 rs1 j - s.ul 16 rs2 (j - 1)) (s.ul 16 rs1 j + s.ul 16 rs2 (j + 1))) / 2) ∧
    LanesMod s (.urstas16 rd rs1 rs2) rd 16 (fun j =>
      (topBottom j (s.ul 16 rs1 j + s.ul 16 rs2 j) (s.ul 16 rs1 j - s.ul 16 rs2 j)) / 2) ∧
    LanesMod s (.urstsa16 rd rs1 rs2) rd 16 (fun j =>
      (topBottom j (s.ul 16 rs1 j - s.ul 16 rs2 j) (s.ul 16 rs1 j + s.ul 16 rs2 j)) / 2) ∧
    LanesMod s (.uradd32 rd rs1 rs2) rd 32 (fun j => (s.ul 32 rs1 j + s.ul 32 rs2 j) / 2) ∧
    LanesMod s (.ursub32 rd rs1 rs2) rd 32 (fun j => (s.ul 32 rs1 j - s.ul 32 rs2 j) / 2) ∧
    LanesMod s (.urcras32 rd rs1 rs2) rd 32 (fun j =>
      (topBottom j (s.ul 32 rs1 j + s.ul 32 rs2 (j - 1)) (s.ul 32 rs1 j - s.ul 32 rs2 (j + 1))) / 2) ∧
    LanesMod s (.urcrsa32 rd rs1 rs2) rd 32 (fun j =>
      (topBottom j (s.ul 32 rs1 j - s.ul 32 rs2 (j - 1)) (s.ul 32 rs1 j + s.ul 32 rs2 (j + 1))) / 2) ∧
    LanesMod s (.urstas32 rd rs1 rs2) rd 32 (fun j =>
      (topBottom j (s.ul 32 rs1 j + s.ul 32 rs2 j) (s.ul 32 rs1 j - s.ul 32 rs2 j)) / 2) ∧
    LanesMod s (.urstsa32 rd rs1 rs2) rd 32 (fun j =>
      (topBottom j (s.ul 32 rs1 j - s.ul 32 rs2 j) (s.ul 32 rs1 j + s.ul 32 rs2 j)) / 2)

/-- For the signed saturating forms of the 8-, 16- and 32-bit additions and subtractions, and the crossed and
straight additions with subtraction (the top lane of each pair takes the first operation, the bottom lane the
second; the crossed forms take the other lane of x[rs2]): each lane is the signed result clipped to w bits, and OV
is set when a lane is clipped and else kept. (41_simd_addsub16.md R130, 41_simd_addsub16.md R131,
42_simd_addsub8_shift.md, 48_rv64_addsub_shift.md) -/
def Obligations.SignedSaturatingLaneArithmetic : Prop :=
  ∀ (s : State) (rd rs1 rs2 : Reg),
    LanesSat s (.kadd8 rd rs1 rs2) rd 8 (-2 ^ 7) (2 ^ 7 - 1) (fun j => s.sl 8 rs1 j + s.sl 8 rs2 j) ∧
    LanesSat s (.ksub8 rd rs1 rs2) rd 8 (-2 ^ 7) (2 ^ 7 - 1) (fun j => s.sl 8 rs1 j - s.sl 8 rs2 j) ∧
    LanesSat s (.kadd16 rd rs1 rs2) rd 16 (-2 ^ 15) (2 ^ 15 - 1) (fun j => s.sl 16 rs1 j + s.sl 16 rs2 j) ∧
    LanesSat s (.ksub16 rd rs1 rs2) rd 16 (-2 ^ 15) (2 ^ 15 - 1) (fun j => s.sl 16 rs1 j - s.sl 16 rs2 j) ∧
    LanesSat s (.kcras16 rd rs1 rs2) rd 16 (-2 ^ 15) (2 ^ 15 - 1) (fun j =>
      topBottom j (s.sl 16 rs1 j + s.sl 16 rs2 (j - 1)) (s.sl 16 rs1 j - s.sl 16 rs2 (j + 1))) ∧
    LanesSat s (.kcrsa16 rd rs1 rs2) rd 16 (-2 ^ 15) (2 ^ 15 - 1) (fun j =>
      topBottom j (s.sl 16 rs1 j - s.sl 16 rs2 (j - 1)) (s.sl 16 rs1 j + s.sl 16 rs2 (j + 1))) ∧
    LanesSat s (.kstas16 rd rs1 rs2) rd 16 (-2 ^ 15) (2 ^ 15 - 1) (fun j =>
      topBottom j (s.sl 16 rs1 j + s.sl 16 rs2 j) (s.sl 16 rs1 j - s.sl 16 rs2 j)) ∧
    LanesSat s (.kstsa16 rd rs1 rs2) rd 16 (-2 ^ 15) (2 ^ 15 - 1) (fun j =>
      topBottom j (s.sl 16 rs1 j - s.sl 16 rs2 j) (s.sl 16 rs1 j + s.sl 16 rs2 j)) ∧
    LanesSat s (.kadd32 rd rs1 rs2) rd 32 (-2 ^ 31) (2 ^ 31 - 1) (fun j => s.sl 32 rs1 j + s.sl 32 rs2 j) ∧
    LanesSat s (.ksub32 rd rs1 rs2) rd 32 (-2 ^ 31) (2 ^ 31 - 1) (fun j => s.sl 32 rs1 j - s.sl 32 rs2 j) ∧
    LanesSat s (.kcras32 rd rs1 rs2) rd 32 (-2 ^ 31) (2 ^ 31 - 1) (fun j =>
      topBottom j (s.sl 32 rs1 j + s.sl 32 rs2 (j - 1)) (s.sl 32 rs1 j - s.sl 32 rs2 (j + 1))) ∧
    LanesSat s (.kcrsa32 rd rs1 rs2) rd 32 (-2 ^ 31) (2 ^ 31 - 1) (fun j =>
      topBottom j (s.sl 32 rs1 j - s.sl 32 rs2 (j - 1)) (s.sl 32 rs1 j + s.sl 32 rs2 (j + 1))) ∧
    LanesSat s (.kstas32 rd rs1 rs2) rd 32 (-2 ^ 31) (2 ^ 31 - 1) (fun j =>
      topBottom j (s.sl 32 rs1 j + s.sl 32 rs2 j) (s.sl 32 rs1 j - s.sl 32 rs2 j)) ∧
    LanesSat s (.kstsa32 rd rs1 rs2) rd 32 (-2 ^ 31) (2 ^ 31 - 1) (fun j =>
      topBottom j (s.sl 32 rs1 j - s.sl 32 rs2 j) (s.sl 32 rs1 j + s.sl 32 rs2 j))

/-- For the unsigned saturating forms of the 8-, 16- and 32-bit additions and subtractions, and the crossed and
straight additions with subtraction (the top lane of each pair takes the first operation, the bottom lane the
second; the crossed forms take the other lane of x[rs2]): each lane is the result clipped to 0 to 2^w - 1, and OV is
set when a lane is clipped and else kept. (41_simd_addsub16.md R130, 41_simd_addsub16.md R131,
42_simd_addsub8_shift.md, 48_rv64_addsub_shift.md) -/
def Obligations.UnsignedSaturatingLaneArithmetic : Prop :=
  ∀ (s : State) (rd rs1 rs2 : Reg),
    LanesUnsignedSat s (.ukadd8 rd rs1 rs2) rd 8 (fun j => s.ul 8 rs1 j + s.ul 8 rs2 j) ∧
    LanesUnsignedSat s (.uksub8 rd rs1 rs2) rd 8 (fun j => s.ul 8 rs1 j - s.ul 8 rs2 j) ∧
    LanesUnsignedSat s (.ukadd16 rd rs1 rs2) rd 16 (fun j => s.ul 16 rs1 j + s.ul 16 rs2 j) ∧
    LanesUnsignedSat s (.uksub16 rd rs1 rs2) rd 16 (fun j => s.ul 16 rs1 j - s.ul 16 rs2 j) ∧
    LanesUnsignedSat s (.ukcras16 rd rs1 rs2) rd 16 (fun j =>
      topBottom j (s.ul 16 rs1 j + s.ul 16 rs2 (j - 1)) (s.ul 16 rs1 j - s.ul 16 rs2 (j + 1))) ∧
    LanesUnsignedSat s (.ukcrsa16 rd rs1 rs2) rd 16 (fun j =>
      topBottom j (s.ul 16 rs1 j - s.ul 16 rs2 (j - 1)) (s.ul 16 rs1 j + s.ul 16 rs2 (j + 1))) ∧
    LanesUnsignedSat s (.ukstas16 rd rs1 rs2) rd 16 (fun j =>
      topBottom j (s.ul 16 rs1 j + s.ul 16 rs2 j) (s.ul 16 rs1 j - s.ul 16 rs2 j)) ∧
    LanesUnsignedSat s (.ukstsa16 rd rs1 rs2) rd 16 (fun j =>
      topBottom j (s.ul 16 rs1 j - s.ul 16 rs2 j) (s.ul 16 rs1 j + s.ul 16 rs2 j)) ∧
    LanesUnsignedSat s (.ukadd32 rd rs1 rs2) rd 32 (fun j => s.ul 32 rs1 j + s.ul 32 rs2 j) ∧
    LanesUnsignedSat s (.uksub32 rd rs1 rs2) rd 32 (fun j => s.ul 32 rs1 j - s.ul 32 rs2 j) ∧
    LanesUnsignedSat s (.ukcras32 rd rs1 rs2) rd 32 (fun j =>
      topBottom j (s.ul 32 rs1 j + s.ul 32 rs2 (j - 1)) (s.ul 32 rs1 j - s.ul 32 rs2 (j + 1))) ∧
    LanesUnsignedSat s (.ukcrsa32 rd rs1 rs2) rd 32 (fun j =>
      topBottom j (s.ul 32 rs1 j - s.ul 32 rs2 (j - 1)) (s.ul 32 rs1 j + s.ul 32 rs2 (j + 1))) ∧
    LanesUnsignedSat s (.ukstas32 rd rs1 rs2) rd 32 (fun j =>
      topBottom j (s.ul 32 rs1 j + s.ul 32 rs2 j) (s.ul 32 rs1 j - s.ul 32 rs2 j)) ∧
    LanesUnsignedSat s (.ukstsa32 rd rs1 rs2) rd 32 (fun j =>
      topBottom j (s.ul 32 rs1 j - s.ul 32 rs2 j) (s.ul 32 rs1 j + s.ul 32 rs2 j))

/-- The 8-, 16- and 32-bit lane shifts by the low bits of x[rs2] or by an immediate: arithmetic right shifts divide
the signed lane by 2^n, rounding down; logical right shifts divide the unsigned lane; left shifts multiply modulo
2^w. OV is not written. (42_simd_addsub8_shift.md R181, 42_simd_addsub8_shift.md R182, 48_rv64_addsub_shift.md,
30_encoding.md R69) -/
def Obligations.LaneShifts : Prop :=
  ∀ (s : State) (rd rs1 rs2 : Reg) (imm3 : BitVec 3) (imm4 : BitVec 4) (imm5 : BitVec 5),
    LanesSigned s (.sra8 rd rs1 rs2) rd 8 (fun j => s.sl 8 rs1 j / 2 ^ ((s.x rs2).toNat % 8)) ∧
    LanesSigned s (.srai8 rd rs1 imm3) rd 8 (fun j => s.sl 8 rs1 j / 2 ^ imm3.toNat) ∧
    LanesUnsigned s (.srl8 rd rs1 rs2) rd 8 (fun j => s.ul 8 rs1 j / 2 ^ ((s.x rs2).toNat % 8)) ∧
    LanesUnsigned s (.srli8 rd rs1 imm3) rd 8 (fun j => s.ul 8 rs1 j / 2 ^ imm3.toNat) ∧
    LanesMod s (.sll8 rd rs1 rs2) rd 8 (fun j => s.ul 8 rs1 j * 2 ^ ((s.x rs2).toNat % 8)) ∧
    LanesMod s (.slli8 rd rs1 imm3) rd 8 (fun j => s.ul 8 rs1 j * 2 ^ imm3.toNat) ∧
    LanesSigned s (.sra16 rd rs1 rs2) rd 16 (fun j => s.sl 16 rs1 j / 2 ^ ((s.x rs2).toNat % 16)) ∧
    LanesSigned s (.srai16 rd rs1 imm4) rd 16 (fun j => s.sl 16 rs1 j / 2 ^ imm4.toNat) ∧
    LanesUnsigned s (.srl16 rd rs1 rs2) rd 16 (fun j => s.ul 16 rs1 j / 2 ^ ((s.x rs2).toNat % 16)) ∧
    LanesUnsigned s (.srli16 rd rs1 imm4) rd 16 (fun j => s.ul 16 rs1 j / 2 ^ imm4.toNat) ∧
    LanesMod s (.sll16 rd rs1 rs2) rd 16 (fun j => s.ul 16 rs1 j * 2 ^ ((s.x rs2).toNat % 16)) ∧
    LanesMod s (.slli16 rd rs1 imm4) rd 16 (fun j => s.ul 16 rs1 j * 2 ^ imm4.toNat) ∧
    LanesSigned s (.sra32 rd rs1 rs2) rd 32 (fun j => s.sl 32 rs1 j / 2 ^ ((s.x rs2).toNat % 32)) ∧
    LanesSigned s (.srai32 rd rs1 imm5) rd 32 (fun j => s.sl 32 rs1 j / 2 ^ imm5.toNat) ∧
    LanesUnsigned s (.srl32 rd rs1 rs2) rd 32 (fun j => s.ul 32 rs1 j / 2 ^ ((s.x rs2).toNat % 32)) ∧
    LanesUnsigned s (.srli32 rd rs1 imm5) rd 32 (fun j => s.ul 32 rs1 j / 2 ^ imm5.toNat) ∧
    LanesMod s (.sll32 rd rs1 rs2) rd 32 (fun j => s.ul 32 rs1 j * 2 ^ ((s.x rs2).toNat % 32)) ∧
    LanesMod s (.slli32 rd rs1 imm5) rd 32 (fun j => s.ul 32 rs1 j * 2 ^ imm5.toNat)

/-- The rounding right shifts of lanes, by the low bits of x[rs2] or by an immediate: the lane divided by 2^n and
rounded to nearest, halves upwards (a shift by 0 leaves it). OV is not written. (42_simd_addsub8_shift.md R181,
42_simd_addsub8_shift.md R182, 48_rv64_addsub_shift.md, 30_encoding.md R69) -/
def Obligations.RoundingLaneShifts : Prop :=
  ∀ (s : State) (rd rs1 rs2 : Reg) (imm3 : BitVec 3) (imm4 : BitVec 4) (imm5 : BitVec 5),
    LanesSigned s (.sra8U rd rs1 rs2) rd 8 (fun j => roundShift (s.sl 8 rs1 j) ((s.x rs2).toNat % 8)) ∧
    LanesSigned s (.srai8U rd rs1 imm3) rd 8 (fun j => roundShift (s.sl 8 rs1 j) imm3.toNat) ∧
    LanesUnsigned s (.srl8U rd rs1 rs2) rd 8 (fun j => roundShift (s.ul 8 rs1 j) ((s.x rs2).toNat % 8)) ∧
    LanesUnsigned s (.srli8U rd rs1 imm3) rd 8 (fun j => roundShift (s.ul 8 rs1 j) imm3.toNat) ∧
    LanesSigned s (.sra16U rd rs1 rs2) rd 16 (fun j => roundShift (s.sl 16 rs1 j) ((s.x rs2).toNat % 16)) ∧
    LanesSigned s (.srai16U rd rs1 imm4) rd 16 (fun j => roundShift (s.sl 16 rs1 j) imm4.toNat) ∧
    LanesUnsigned s (.srl16U rd rs1 rs2) rd 16 (fun j => roundShift (s.ul 16 rs1 j) ((s.x rs2).toNat % 16)) ∧
    LanesUnsigned s (.srli16U rd rs1 imm4) rd 16 (fun j => roundShift (s.ul 16 rs1 j) imm4.toNat) ∧
    LanesSigned s (.sra32U rd rs1 rs2) rd 32 (fun j => roundShift (s.sl 32 rs1 j) ((s.x rs2).toNat % 32)) ∧
    LanesSigned s (.srai32U rd rs1 imm5) rd 32 (fun j => roundShift (s.sl 32 rs1 j) imm5.toNat) ∧
    LanesUnsigned s (.srl32U rd rs1 rs2) rd 32 (fun j => roundShift (s.ul 32 rs1 j) ((s.x rs2).toNat % 32)) ∧
    LanesUnsigned s (.srli32U rd rs1 imm5) rd 32 (fun j => roundShift (s.ul 32 rs1 j) imm5.toNat)

/-- The saturating left shifts of lanes clip the signed lane times 2^n to w bits; KSLRA and KSLRA.u take a signed
amount one bit wider and, for a negative one, shift right (rounding in the .u forms) by at most w - 1. OV is set
when a lane is clipped and else kept. (42_simd_addsub8_shift.md R181, 42_simd_addsub8_shift.md R182,
48_rv64_addsub_shift.md, 30_encoding.md R69) -/
def Obligations.SaturatingLaneShifts : Prop :=
  ∀ (s : State) (rd rs1 rs2 : Reg) (imm3 : BitVec 3) (imm4 : BitVec 4) (imm5 : BitVec 5),
    LanesSat s (.ksll8 rd rs1 rs2) rd 8 (-2 ^ 7) (2 ^ 7 - 1) (fun j => s.sl 8 rs1 j * 2 ^ ((s.x rs2).toNat % 8)) ∧
    LanesSat s (.kslli8 rd rs1 imm3) rd 8 (-2 ^ 7) (2 ^ 7 - 1) (fun j => s.sl 8 rs1 j * 2 ^ imm3.toNat) ∧
    LanesSat s (.kslra8 rd rs1 rs2) rd 8 (-2 ^ 7) (2 ^ 7 - 1) (fun j =>
        if ((s.x rs2).toNat : Int).bmod 16 < 0 then s.sl 8 rs1 j / 2 ^ min (-(((s.x rs2).toNat : Int).bmod 16)).toNat 7
        else s.sl 8 rs1 j * 2 ^ (((s.x rs2).toNat : Int).bmod 16).toNat) ∧
    LanesSat s (.kslra8U rd rs1 rs2) rd 8 (-2 ^ 7) (2 ^ 7 - 1) (fun j =>
        if ((s.x rs2).toNat : Int).bmod 16 < 0 then roundShift (s.sl 8 rs1 j) (min (-(((s.x rs2).toNat : Int).bmod 16)).toNat 7)
        else s.sl 8 rs1 j * 2 ^ (((s.x rs2).toNat : Int).bmod 16).toNat) ∧
    LanesSat s (.ksll16 rd rs1 rs2) rd 16 (-2 ^ 15) (2 ^ 15 - 1) (fun j => s.sl 16 rs1 j * 2 ^ ((s.x rs2).toNat % 16)) ∧
    LanesSat s (.kslli16 rd rs1 imm4) rd 16 (-2 ^ 15) (2 ^ 15 - 1) (fun j => s.sl 16 rs1 j * 2 ^ imm4.toNat) ∧
    LanesSat s (.kslra16 rd rs1 rs2) rd 16 (-2 ^ 15) (2 ^ 15 - 1) (fun j =>
        if ((s.x rs2).toNat : Int).bmod 32 < 0 then s.sl 16 rs1 j / 2 ^ min (-(((s.x rs2).toNat : Int).bmod 32)).toNat 15
        else s.sl 16 rs1 j * 2 ^ (((s.x rs2).toNat : Int).bmod 32).toNat) ∧
    LanesSat s (.kslra16U rd rs1 rs2) rd 16 (-2 ^ 15) (2 ^ 15 - 1) (fun j =>
        if ((s.x rs2).toNat : Int).bmod 32 < 0 then roundShift (s.sl 16 rs1 j) (min (-(((s.x rs2).toNat : Int).bmod 32)).toNat 15)
        else s.sl 16 rs1 j * 2 ^ (((s.x rs2).toNat : Int).bmod 32).toNat) ∧
    LanesSat s (.ksll32 rd rs1 rs2) rd 32 (-2 ^ 31) (2 ^ 31 - 1) (fun j => s.sl 32 rs1 j * 2 ^ ((s.x rs2).toNat % 32)) ∧
    LanesSat s (.kslli32 rd rs1 imm5) rd 32 (-2 ^ 31) (2 ^ 31 - 1) (fun j => s.sl 32 rs1 j * 2 ^ imm5.toNat) ∧
    LanesSat s (.kslra32 rd rs1 rs2) rd 32 (-2 ^ 31) (2 ^ 31 - 1) (fun j =>
        if ((s.x rs2).toNat : Int).bmod 64 < 0 then s.sl 32 rs1 j / 2 ^ min (-(((s.x rs2).toNat : Int).bmod 64)).toNat 31
        else s.sl 32 rs1 j * 2 ^ (((s.x rs2).toNat : Int).bmod 64).toNat) ∧
    LanesSat s (.kslra32U rd rs1 rs2) rd 32 (-2 ^ 31) (2 ^ 31 - 1) (fun j =>
        if ((s.x rs2).toNat : Int).bmod 64 < 0 then roundShift (s.sl 32 rs1 j) (min (-(((s.x rs2).toNat : Int).bmod 64)).toNat 31)
        else s.sl 32 rs1 j * 2 ^ (((s.x rs2).toNat : Int).bmod 64).toNat)

/-- Each lane of the result is all ones where the comparison of the lanes holds (equal; signed or unsigned, less or
less-or-equal) and zero elsewhere. OV is not written. (43_simd_cmp_misc_unpack.md R220, 43_simd_cmp_misc_unpack.md
R221, 43_simd_cmp_misc_unpack.md R230) -/
def Obligations.LaneCompares : Prop :=
  ∀ (s : State) (rd rs1 rs2 : Reg),
    Lanes s (.cmpeq8 rd rs1 rs2) rd 8 (fun j r =>
      r = if s.ul 8 rs1 j = s.ul 8 rs2 j then BitVec.allOnes 8 else 0#8) ∧
    Lanes s (.scmplt8 rd rs1 rs2) rd 8 (fun j r =>
      r = if s.sl 8 rs1 j < s.sl 8 rs2 j then BitVec.allOnes 8 else 0#8) ∧
    Lanes s (.scmple8 rd rs1 rs2) rd 8 (fun j r =>
      r = if s.sl 8 rs1 j ≤ s.sl 8 rs2 j then BitVec.allOnes 8 else 0#8) ∧
    Lanes s (.ucmplt8 rd rs1 rs2) rd 8 (fun j r =>
      r = if s.ul 8 rs1 j < s.ul 8 rs2 j then BitVec.allOnes 8 else 0#8) ∧
    Lanes s (.ucmple8 rd rs1 rs2) rd 8 (fun j r =>
      r = if s.ul 8 rs1 j ≤ s.ul 8 rs2 j then BitVec.allOnes 8 else 0#8) ∧
    Lanes s (.cmpeq16 rd rs1 rs2) rd 16 (fun j r =>
      r = if s.ul 16 rs1 j = s.ul 16 rs2 j then BitVec.allOnes 16 else 0#16) ∧
    Lanes s (.scmplt16 rd rs1 rs2) rd 16 (fun j r =>
      r = if s.sl 16 rs1 j < s.sl 16 rs2 j then BitVec.allOnes 16 else 0#16) ∧
    Lanes s (.scmple16 rd rs1 rs2) rd 16 (fun j r =>
      r = if s.sl 16 rs1 j ≤ s.sl 16 rs2 j then BitVec.allOnes 16 else 0#16) ∧
    Lanes s (.ucmplt16 rd rs1 rs2) rd 16 (fun j r =>
      r = if s.ul 16 rs1 j < s.ul 16 rs2 j then BitVec.allOnes 16 else 0#16) ∧
    Lanes s (.ucmple16 rd rs1 rs2) rd 16 (fun j r =>
      r = if s.ul 16 rs1 j ≤ s.ul 16 rs2 j then BitVec.allOnes 16 else 0#16)

/-- Each lane of the result is the smaller, or the greater, of the two lanes, read as signed or as unsigned numbers.
OV is not written. (43_simd_cmp_misc_unpack.md R235, 43_simd_cmp_misc_unpack.md R250, 49_rv64_misc_mul.md R503,
49_rv64_misc_mul.md R506) -/
def Obligations.LaneMinimumMaximum : Prop :=
  ∀ (s : State) (rd rs1 rs2 : Reg),
    LanesSigned s (.smin8 rd rs1 rs2) rd 8 (fun j => min (s.sl 8 rs1 j) (s.sl 8 rs2 j)) ∧
    LanesUnsigned s (.umin8 rd rs1 rs2) rd 8 (fun j => min (s.ul 8 rs1 j) (s.ul 8 rs2 j)) ∧
    LanesSigned s (.smax8 rd rs1 rs2) rd 8 (fun j => max (s.sl 8 rs1 j) (s.sl 8 rs2 j)) ∧
    LanesUnsigned s (.umax8 rd rs1 rs2) rd 8 (fun j => max (s.ul 8 rs1 j) (s.ul 8 rs2 j)) ∧
    LanesSigned s (.smin16 rd rs1 rs2) rd 16 (fun j => min (s.sl 16 rs1 j) (s.sl 16 rs2 j)) ∧
    LanesUnsigned s (.umin16 rd rs1 rs2) rd 16 (fun j => min (s.ul 16 rs1 j) (s.ul 16 rs2 j)) ∧
    LanesSigned s (.smax16 rd rs1 rs2) rd 16 (fun j => max (s.sl 16 rs1 j) (s.sl 16 rs2 j)) ∧
    LanesUnsigned s (.umax16 rd rs1 rs2) rd 16 (fun j => max (s.ul 16 rs1 j) (s.ul 16 rs2 j)) ∧
    LanesSigned s (.smin32 rd rs1 rs2) rd 32 (fun j => min (s.sl 32 rs1 j) (s.sl 32 rs2 j)) ∧
    LanesUnsigned s (.umin32 rd rs1 rs2) rd 32 (fun j => min (s.ul 32 rs1 j) (s.ul 32 rs2 j)) ∧
    LanesSigned s (.smax32 rd rs1 rs2) rd 32 (fun j => max (s.sl 32 rs1 j) (s.sl 32 rs2 j)) ∧
    LanesUnsigned s (.umax32 rd rs1 rs2) rd 32 (fun j => max (s.ul 32 rs1 j) (s.ul 32 rs2 j))

/-- SCLIP clips each signed lane to -2^n to 2^n - 1 and UCLIP to 0 to 2^n - 1, n the immediate; KABS writes the
absolute value of each signed lane, clipped to the largest positive one. OV is set when a lane is clipped and else
kept. (43_simd_cmp_misc_unpack.md R239, 43_simd_cmp_misc_unpack.md R240, 43_simd_cmp_misc_unpack.md R241,
43_simd_cmp_misc_unpack.md R254, 43_simd_cmp_misc_unpack.md R255, 43_simd_cmp_misc_unpack.md R256,
45_partial_simd_mul16.md R341, 45_partial_simd_mul16.md R342, 49_rv64_misc_mul.md R507) -/
def Obligations.LaneClipsAndAbsolute : Prop :=
  ∀ (s : State) (rd rs1 : Reg) (imm3 : BitVec 3) (imm4 : BitVec 4) (imm5 : BitVec 5),
    LanesSat s (.sclip8 rd rs1 imm3) rd 8 (-2 ^ imm3.toNat) (2 ^ imm3.toNat - 1) (fun j => s.sl 8 rs1 j) ∧
    LanesSat s (.uclip8 rd rs1 imm3) rd 8 0 (2 ^ imm3.toNat - 1) (fun j => s.sl 8 rs1 j) ∧
    LanesSat s (.kabs8 rd rs1) rd 8 (-2 ^ 7) (2 ^ 7 - 1) (fun j => |s.sl 8 rs1 j|) ∧
    LanesSat s (.sclip16 rd rs1 imm4) rd 16 (-2 ^ imm4.toNat) (2 ^ imm4.toNat - 1) (fun j => s.sl 16 rs1 j) ∧
    LanesSat s (.uclip16 rd rs1 imm4) rd 16 0 (2 ^ imm4.toNat - 1) (fun j => s.sl 16 rs1 j) ∧
    LanesSat s (.kabs16 rd rs1) rd 16 (-2 ^ 15) (2 ^ 15 - 1) (fun j => |s.sl 16 rs1 j|) ∧
    LanesSat s (.sclip32 rd rs1 imm5) rd 32 (-2 ^ imm5.toNat) (2 ^ imm5.toNat - 1) (fun j => s.sl 32 rs1 j) ∧
    LanesSat s (.uclip32 rd rs1 imm5) rd 32 0 (2 ^ imm5.toNat - 1) (fun j => s.sl 32 rs1 j) ∧
    LanesSat s (.kabs32 rd rs1) rd 32 (-2 ^ 31) (2 ^ 31 - 1) (fun j => |s.sl 32 rs1 j|)

/-- CLZ8, CLZ16 and CLZ32 write in each lane the number of zero bits above the highest one bit of the lane (w for
zero); CLRS8, CLRS16 and CLRS32 the number of bits right below the sign bit that equal it. OV is not written.
(43_simd_cmp_misc_unpack.md R242, 43_simd_cmp_misc_unpack.md R243, 43_simd_cmp_misc_unpack.md R257,
43_simd_cmp_misc_unpack.md R258, 45_partial_simd_mul16.md R343, 45_partial_simd_mul16.md R344) -/
def Obligations.LaneBitCounts : Prop :=
  ∀ (s : State) (rd rs1 : Reg),
    Lanes s (.clz8 rd rs1) rd 8 (fun j r => LeadingZeros (lane 8 (s.x rs1) j) r.toNat) ∧
    Lanes s (.clrs8 rd rs1) rd 8 (fun j r => RedundantSigns (lane 8 (s.x rs1) j) r.toNat) ∧
    Lanes s (.clz16 rd rs1) rd 16 (fun j r => LeadingZeros (lane 16 (s.x rs1) j) r.toNat) ∧
    Lanes s (.clrs16 rd rs1) rd 16 (fun j r => RedundantSigns (lane 16 (s.x rs1) j) r.toNat) ∧
    Lanes s (.clz32 rd rs1) rd 32 (fun j r => LeadingZeros (lane 32 (s.x rs1) j) r.toNat) ∧
    Lanes s (.clrs32 rd rs1) rd 32 (fun j r => RedundantSigns (lane 32 (s.x rs1) j) r.toNat)

/-- SWAP8 and SWAP16 exchange the two lanes of each pair; SUNPKD8pq and ZUNPKD8pq put byte p of each word, sign- or
zero-extended, into the top halfword of that word of the result, and byte q into the bottom one. OV is not written.
(43_simd_cmp_misc_unpack.md R234, 43_simd_cmp_misc_unpack.md R244, 43_simd_cmp_misc_unpack.md R259) -/
def Obligations.SwapsAndUnpacks : Prop :=
  ∀ (s : State) (rd rs1 : Reg),
    Lanes s (.swap8 rd rs1) rd 8 (fun j r => r = lane 8 (s.x rs1) (topBottom j (j - 1) (j + 1))) ∧
    Lanes s (.swap16 rd rs1) rd 16 (fun j r => r = lane 16 (s.x rs1) (topBottom j (j - 1) (j + 1))) ∧
    LanesSigned s (.sunpkd810 rd rs1) rd 16 (fun j => s.sl 8 rs1 (4 * (j / 2) + topBottom j 1 0)) ∧
    LanesUnsigned s (.zunpkd810 rd rs1) rd 16 (fun j => s.ul 8 rs1 (4 * (j / 2) + topBottom j 1 0)) ∧
    LanesSigned s (.sunpkd820 rd rs1) rd 16 (fun j => s.sl 8 rs1 (4 * (j / 2) + topBottom j 2 0)) ∧
    LanesUnsigned s (.zunpkd820 rd rs1) rd 16 (fun j => s.ul 8 rs1 (4 * (j / 2) + topBottom j 2 0)) ∧
    LanesSigned s (.sunpkd830 rd rs1) rd 16 (fun j => s.sl 8 rs1 (4 * (j / 2) + topBottom j 3 0)) ∧
    LanesUnsigned s (.zunpkd830 rd rs1) rd 16 (fun j => s.ul 8 rs1 (4 * (j / 2) + topBottom j 3 0)) ∧
    LanesSigned s (.sunpkd831 rd rs1) rd 16 (fun j => s.sl 8 rs1 (4 * (j / 2) + topBottom j 3 1)) ∧
    LanesUnsigned s (.zunpkd831 rd rs1) rd 16 (fun j => s.ul 8 rs1 (4 * (j / 2) + topBottom j 3 1)) ∧
    LanesSigned s (.sunpkd832 rd rs1) rd 16 (fun j => s.sl 8 rs1 (4 * (j / 2) + topBottom j 3 2)) ∧
    LanesUnsigned s (.zunpkd832 rd rs1) rd 16 (fun j => s.ul 8 rs1 (4 * (j / 2) + topBottom j 3 2))

/-- SMUL and UMUL multiply the lanes of the low words of x[rs1] and x[rs2] in place, the X forms crossed with the
other lane of the pair, and write the exact products, twice as wide, as the 64-bit operand rd (a register pair on
RV32; the pair of x0 takes nothing). On RV32 an odd field names the pair that its bits 4 to 1 give, so that 1 names
the pair of x0 and the result for it changes nothing: the model's choice where R24 leaves odd fields open (log entry
13). (44_simd_mul_pack_msw.md R270, 44_simd_mul_pack_msw.md R271, 44_simd_mul_pack_msw.md R272,
44_simd_mul_pack_msw.md R273, 44_simd_mul_pack_msw.md R276, 44_simd_mul_pack_msw.md R279, 10_state.md R22,
10_state.md R23) -/
def Obligations.LaneProducts64 : Prop :=
  ∀ (s : State) (rd rs1 rs2 : Reg),
    Lanes64Signed s (.smul16 rd rs1 rs2) rd 32 (fun j => s.sl 16 rs1 j * s.sl 16 rs2 j) ∧
    Lanes64Signed s (.smulx16 rd rs1 rs2) rd 32 (fun j =>
      s.sl 16 rs1 j * s.sl 16 rs2 (topBottom j (j - 1) (j + 1))) ∧
    Lanes64Unsigned s (.umul16 rd rs1 rs2) rd 32 (fun j => s.ul 16 rs1 j * s.ul 16 rs2 j) ∧
    Lanes64Unsigned s (.umulx16 rd rs1 rs2) rd 32 (fun j =>
      s.ul 16 rs1 j * s.ul 16 rs2 (topBottom j (j - 1) (j + 1))) ∧
    Lanes64Signed s (.smul8 rd rs1 rs2) rd 16 (fun j => s.sl 8 rs1 j * s.sl 8 rs2 j) ∧
    Lanes64Signed s (.smulx8 rd rs1 rs2) rd 16 (fun j =>
      s.sl 8 rs1 j * s.sl 8 rs2 (topBottom j (j - 1) (j + 1))) ∧
    Lanes64Unsigned s (.umul8 rd rs1 rs2) rd 16 (fun j => s.ul 8 rs1 j * s.ul 8 rs2 j) ∧
    Lanes64Unsigned s (.umulx8 rd rs1 rs2) rd 16 (fun j =>
      s.ul 8 rs1 j * s.ul 8 rs2 (topBottom j (j - 1) (j + 1)))

/-- The Q7 and Q15 products (KHM8, KHM16, their crossed forms, and KHMBB16, KHMBT16, KHMTT16 on the halfwords of
each word) are the product divided by 2^7 or 2^15, rounded down and clipped; the doubled products KDMBB16, KDMBT16,
KDMTT16 are clipped to 32 bits. OV is set when a lane is clipped and else kept. (44_simd_mul_pack_msw.md R274,
44_simd_mul_pack_msw.md R275, 44_simd_mul_pack_msw.md R280, 44_simd_mul_pack_msw.md R281, 49_rv64_misc_mul.md R509,
49_rv64_misc_mul.md R512, 49_rv64_misc_mul.md R514) -/
def Obligations.SaturatingLaneProducts : Prop :=
  ∀ (s : State) (rd rs1 rs2 : Reg),
    LanesSat s (.khm16 rd rs1 rs2) rd 16 (-2 ^ 15) (2 ^ 15 - 1) (fun j => s.sl 16 rs1 j * s.sl 16 rs2 j / 2 ^ 15) ∧
    LanesSat s (.khmx16 rd rs1 rs2) rd 16 (-2 ^ 15) (2 ^ 15 - 1) (fun j =>
      s.sl 16 rs1 j * s.sl 16 rs2 (topBottom j (j - 1) (j + 1)) / 2 ^ 15) ∧
    LanesSat s (.khm8 rd rs1 rs2) rd 8 (-2 ^ 7) (2 ^ 7 - 1) (fun j => s.sl 8 rs1 j * s.sl 8 rs2 j / 2 ^ 7) ∧
    LanesSat s (.khmx8 rd rs1 rs2) rd 8 (-2 ^ 7) (2 ^ 7 - 1) (fun j =>
      s.sl 8 rs1 j * s.sl 8 rs2 (topBottom j (j - 1) (j + 1)) / 2 ^ 7) ∧
    LanesSat s (.khmbb16 rd rs1 rs2) rd 32 (-2 ^ 15) (2 ^ 15 - 1) (fun j => s.bot rs1 j * s.bot rs2 j / 2 ^ 15) ∧
    LanesSat s (.kdmbb16 rd rs1 rs2) rd 32 (-2 ^ 31) (2 ^ 31 - 1) (fun j => s.bot rs1 j * s.bot rs2 j * 2) ∧
    LanesSat s (.khmbt16 rd rs1 rs2) rd 32 (-2 ^ 15) (2 ^ 15 - 1) (fun j => s.bot rs1 j * s.top rs2 j / 2 ^ 15) ∧
    LanesSat s (.kdmbt16 rd rs1 rs2) rd 32 (-2 ^ 31) (2 ^ 31 - 1) (fun j => s.bot rs1 j * s.top rs2 j * 2) ∧
    LanesSat s (.khmtt16 rd rs1 rs2) rd 32 (-2 ^ 15) (2 ^ 15 - 1) (fun j => s.top rs1 j * s.top rs2 j / 2 ^ 15) ∧
    LanesSat s (.kdmtt16 rd rs1 rs2) rd 32 (-2 ^ 31) (2 ^ 31 - 1) (fun j => s.top rs1 j * s.top rs2 j * 2)

/-- PKxy16 puts into the top halfword of each word the bottom (B) or top (T) halfword x of that word of x[rs1], and
into the bottom halfword the halfword y of x[rs2]; PKxy32 does the same with the two words of an RV64 register. OV
is not written. (44_simd_mul_pack_msw.md R282, 44_simd_mul_pack_msw.md R283, 44_simd_mul_pack_msw.md R284,
44_simd_mul_pack_msw.md R285, 49_rv64_misc_mul.md R541, 49_rv64_misc_mul.md R544) -/
def Obligations.LanePacks : Prop :=
  ∀ (s : State) (rd rs1 rs2 : Reg),
    Lanes s (.pkbb16 rd rs1 rs2) rd 16 (fun j r => r = topBottom j (lane 16 (s.x rs1) (j - 1)) (lane 16 (s.x rs2) j)) ∧
    Lanes s (.pkbt16 rd rs1 rs2) rd 16 (fun j r => r = topBottom j (lane 16 (s.x rs1) (j - 1)) (lane 16 (s.x rs2) (j + 1))) ∧
    Lanes s (.pktt16 rd rs1 rs2) rd 16 (fun j r => r = topBottom j (lane 16 (s.x rs1) j) (lane 16 (s.x rs2) (j + 1))) ∧
    Lanes s (.pktb16 rd rs1 rs2) rd 16 (fun j r => r = topBottom j (lane 16 (s.x rs1) j) (lane 16 (s.x rs2) j)) ∧
    (s.cfg.xlen = .rv64 →
      Lanes s (.pkbb32 rd rs1 rs2) rd 32 fun j r => r = topBottom j (lane 32 (s.x rs1) (j - 1)) (lane 32 (s.x rs2) j)) ∧
    (s.cfg.xlen = .rv64 →
      Lanes s (.pkbt32 rd rs1 rs2) rd 32 fun j r => r = topBottom j (lane 32 (s.x rs1) (j - 1)) (lane 32 (s.x rs2) (j + 1))) ∧
    (s.cfg.xlen = .rv64 →
      Lanes s (.pktt32 rd rs1 rs2) rd 32 fun j r => r = topBottom j (lane 32 (s.x rs1) j) (lane 32 (s.x rs2) (j + 1))) ∧
    (s.cfg.xlen = .rv64 →
      Lanes s (.pktb32 rd rs1 rs2) rd 32 fun j r => r = topBottom j (lane 32 (s.x rs1) j) (lane 32 (s.x rs2) j))

/-- SMMUL writes in each word the high 32 bits of the signed product of the words; SMMWB and SMMWT the high 32 of
the 48 bits of the product of the word of x[rs1] and the bottom or top halfword of that word of x[rs2]; the .u forms
round to nearest. OV is not written. (44_simd_mul_pack_msw.md R290, 44_simd_mul_pack_msw.md R291,
44_simd_mul_pack_msw.md R298, 44_simd_mul_pack_msw.md R299, 44_simd_mul_pack_msw.md R300, 44_simd_mul_pack_msw.md
R301) -/
def Obligations.MostSignificantWordProducts : Prop :=
  ∀ (s : State) (rd rs1 rs2 : Reg),
    LanesSigned s (.smmul rd rs1 rs2) rd 32 (fun j => s.sl 32 rs1 j * s.sl 32 rs2 j / 2 ^ 32) ∧
    LanesSigned s (.smmulRv32 rd rs1 rs2) rd 32 (fun j => s.sl 32 rs1 j * s.sl 32 rs2 j / 2 ^ 32) ∧
    LanesSigned s (.smmulU rd rs1 rs2) rd 32 (fun j => roundShift (s.sl 32 rs1 j * s.sl 32 rs2 j) 32) ∧
    LanesSigned s (.smmwb rd rs1 rs2) rd 32 (fun j => s.sl 32 rs1 j * s.bot rs2 j / 2 ^ 16) ∧
    LanesSigned s (.smmwbU rd rs1 rs2) rd 32 (fun j => roundShift (s.sl 32 rs1 j * s.bot rs2 j) 16) ∧
    LanesSigned s (.smmwt rd rs1 rs2) rd 32 (fun j => s.sl 32 rs1 j * s.top rs2 j / 2 ^ 16) ∧
    LanesSigned s (.smmwtU rd rs1 rs2) rd 32 (fun j => roundShift (s.sl 32 rs1 j * s.top rs2 j) 16)

/-- KMMAC, KMMSB, KMMAWB and KMMAWT add the high part of the product to the word of rd, or subtract it, and clip;
KWMMUL, KMMWB2 and KMMWT2 clip the high part of the doubled product; the .u forms round the product to nearest
first. OV is set when a word is clipped and else kept. (44_simd_mul_pack_msw.md R292, 44_simd_mul_pack_msw.md R294,
44_simd_mul_pack_msw.md R296, 44_simd_mul_pack_msw.md R302, 44_simd_mul_pack_msw.md R303, 44_simd_mul_pack_msw.md
R306, 44_simd_mul_pack_msw.md R309) -/
def Obligations.SaturatingMostSignificantWord : Prop :=
  ∀ (s : State) (rd rs1 rs2 : Reg),
    LanesSat s (.kmmac rd rs1 rs2) rd 32 (-2 ^ 31) (2 ^ 31 - 1) (fun j =>
      s.sl 32 rd j + s.sl 32 rs1 j * s.sl 32 rs2 j / 2 ^ 32) ∧
    LanesSat s (.kmmacU rd rs1 rs2) rd 32 (-2 ^ 31) (2 ^ 31 - 1) (fun j =>
      s.sl 32 rd j + roundShift (s.sl 32 rs1 j * s.sl 32 rs2 j) 32) ∧
    LanesSat s (.kmmsb rd rs1 rs2) rd 32 (-2 ^ 31) (2 ^ 31 - 1) (fun j =>
      s.sl 32 rd j - s.sl 32 rs1 j * s.sl 32 rs2 j / 2 ^ 32) ∧
    LanesSat s (.kmmsbU rd rs1 rs2) rd 32 (-2 ^ 31) (2 ^ 31 - 1) (fun j =>
      s.sl 32 rd j - roundShift (s.sl 32 rs1 j * s.sl 32 rs2 j) 32) ∧
    LanesSat s (.kwmmul rd rs1 rs2) rd 32 (-2 ^ 31) (2 ^ 31 - 1) (fun j => s.sl 32 rs1 j * s.sl 32 rs2 j / 2 ^ 31) ∧
    LanesSat s (.kwmmulU rd rs1 rs2) rd 32 (-2 ^ 31) (2 ^ 31 - 1) (fun j =>
      roundShift (s.sl 32 rs1 j * s.sl 32 rs2 j) 31) ∧
    LanesSat s (.kmmawb rd rs1 rs2) rd 32 (-2 ^ 31) (2 ^ 31 - 1) (fun j =>
      s.sl 32 rd j + s.sl 32 rs1 j * s.bot rs2 j / 2 ^ 16) ∧
    LanesSat s (.kmmwb2 rd rs1 rs2) rd 32 (-2 ^ 31) (2 ^ 31 - 1) (fun j => s.sl 32 rs1 j * s.bot rs2 j / 2 ^ 15) ∧
    LanesSat s (.kmmawbU rd rs1 rs2) rd 32 (-2 ^ 31) (2 ^ 31 - 1) (fun j =>
      s.sl 32 rd j + roundShift (s.sl 32 rs1 j * s.bot rs2 j) 16) ∧
    LanesSat s (.kmmwb2U rd rs1 rs2) rd 32 (-2 ^ 31) (2 ^ 31 - 1) (fun j =>
      roundShift (s.sl 32 rs1 j * s.bot rs2 j) 15) ∧
    LanesSat s (.kmmawt rd rs1 rs2) rd 32 (-2 ^ 31) (2 ^ 31 - 1) (fun j =>
      s.sl 32 rd j + s.sl 32 rs1 j * s.top rs2 j / 2 ^ 16) ∧
    LanesSat s (.kmmwt2 rd rs1 rs2) rd 32 (-2 ^ 31) (2 ^ 31 - 1) (fun j => s.sl 32 rs1 j * s.top rs2 j / 2 ^ 15) ∧
    LanesSat s (.kmmawtU rd rs1 rs2) rd 32 (-2 ^ 31) (2 ^ 31 - 1) (fun j =>
      s.sl 32 rd j + roundShift (s.sl 32 rs1 j * s.top rs2 j) 16) ∧
    LanesSat s (.kmmwt2U rd rs1 rs2) rd 32 (-2 ^ 31) (2 ^ 31 - 1) (fun j =>
      roundShift (s.sl 32 rs1 j * s.top rs2 j) 15)

/-- KMMAWB2 and KMMAWT2 (and their rounding forms) and KDMABB16, KDMABT16, KDMATT16 first clip the doubled product
of each word, then add it to the word of rd and clip the sum; OV is set when either step clips in a word and else
kept. (44_simd_mul_pack_msw.md R310, 44_simd_mul_pack_msw.md R311, 44_simd_mul_pack_msw.md R312,
44_simd_mul_pack_msw.md R313, 49_rv64_misc_mul.md R515, 49_rv64_misc_mul.md R516, 49_rv64_misc_mul.md R517) -/
def Obligations.TwiceSaturatingAccumulates : Prop :=
  ∀ (s : State) (rd rs1 rs2 : Reg),
    LanesClip s (.kmmawb2 rd rs1 rs2) rd 32
      (fun j => outside (-2 ^ 31) (2 ^ 31 - 1) (s.sl 32 rs1 j * s.bot rs2 j / 2 ^ 15) ∨
        outside (-2 ^ 31) (2 ^ 31 - 1) (s.sl 32 rd j + clamp (-2 ^ 31) (2 ^ 31 - 1) (s.sl 32 rs1 j * s.bot rs2 j / 2 ^ 15)))
      (fun j => clamp (-2 ^ 31) (2 ^ 31 - 1) (s.sl 32 rd j + clamp (-2 ^ 31) (2 ^ 31 - 1) (s.sl 32 rs1 j * s.bot rs2 j / 2 ^ 15))) ∧
    LanesClip s (.kmmawb2U rd rs1 rs2) rd 32
      (fun j => outside (-2 ^ 31) (2 ^ 31 - 1) (roundShift (s.sl 32 rs1 j * s.bot rs2 j) 15) ∨
        outside (-2 ^ 31) (2 ^ 31 - 1) (s.sl 32 rd j + clamp (-2 ^ 31) (2 ^ 31 - 1) (roundShift (s.sl 32 rs1 j * s.bot rs2 j) 15)))
      (fun j => clamp (-2 ^ 31) (2 ^ 31 - 1) (s.sl 32 rd j + clamp (-2 ^ 31) (2 ^ 31 - 1) (roundShift (s.sl 32 rs1 j * s.bot rs2 j) 15))) ∧
    LanesClip s (.kmmawt2 rd rs1 rs2) rd 32
      (fun j => outside (-2 ^ 31) (2 ^ 31 - 1) (s.sl 32 rs1 j * s.top rs2 j / 2 ^ 15) ∨
        outside (-2 ^ 31) (2 ^ 31 - 1) (s.sl 32 rd j + clamp (-2 ^ 31) (2 ^ 31 - 1) (s.sl 32 rs1 j * s.top rs2 j / 2 ^ 15)))
      (fun j => clamp (-2 ^ 31) (2 ^ 31 - 1) (s.sl 32 rd j + clamp (-2 ^ 31) (2 ^ 31 - 1) (s.sl 32 rs1 j * s.top rs2 j / 2 ^ 15))) ∧
    LanesClip s (.kmmawt2U rd rs1 rs2) rd 32
      (fun j => outside (-2 ^ 31) (2 ^ 31 - 1) (roundShift (s.sl 32 rs1 j * s.top rs2 j) 15) ∨
        outside (-2 ^ 31) (2 ^ 31 - 1) (s.sl 32 rd j + clamp (-2 ^ 31) (2 ^ 31 - 1) (roundShift (s.sl 32 rs1 j * s.top rs2 j) 15)))
      (fun j => clamp (-2 ^ 31) (2 ^ 31 - 1) (s.sl 32 rd j + clamp (-2 ^ 31) (2 ^ 31 - 1) (roundShift (s.sl 32 rs1 j * s.top rs2 j) 15))) ∧
    LanesClip s (.kdmabb16 rd rs1 rs2) rd 32
      (fun j => outside (-2 ^ 31) (2 ^ 31 - 1) (s.bot rs1 j * s.bot rs2 j * 2) ∨
        outside (-2 ^ 31) (2 ^ 31 - 1) (s.sl 32 rd j + clamp (-2 ^ 31) (2 ^ 31 - 1) (s.bot rs1 j * s.bot rs2 j * 2)))
      (fun j => clamp (-2 ^ 31) (2 ^ 31 - 1) (s.sl 32 rd j + clamp (-2 ^ 31) (2 ^ 31 - 1) (s.bot rs1 j * s.bot rs2 j * 2))) ∧
    LanesClip s (.kdmabt16 rd rs1 rs2) rd 32
      (fun j => outside (-2 ^ 31) (2 ^ 31 - 1) (s.bot rs1 j * s.top rs2 j * 2) ∨
        outside (-2 ^ 31) (2 ^ 31 - 1) (s.sl 32 rd j + clamp (-2 ^ 31) (2 ^ 31 - 1) (s.bot rs1 j * s.top rs2 j * 2)))
      (fun j => clamp (-2 ^ 31) (2 ^ 31 - 1) (s.sl 32 rd j + clamp (-2 ^ 31) (2 ^ 31 - 1) (s.bot rs1 j * s.top rs2 j * 2))) ∧
    LanesClip s (.kdmatt16 rd rs1 rs2) rd 32
      (fun j => outside (-2 ^ 31) (2 ^ 31 - 1) (s.top rs1 j * s.top rs2 j * 2) ∨
        outside (-2 ^ 31) (2 ^ 31 - 1) (s.sl 32 rd j + clamp (-2 ^ 31) (2 ^ 31 - 1) (s.top rs1 j * s.top rs2 j * 2)))
      (fun j => clamp (-2 ^ 31) (2 ^ 31 - 1) (s.sl 32 rd j + clamp (-2 ^ 31) (2 ^ 31 - 1) (s.top rs1 j * s.top rs2 j * 2)))

/-- SMxy16, SMDS, SMDRS and SMXDS write in each word the exact product, or the difference of the two products, of
its halfwords; KMDA, KMXDA and the accumulating KM instructions write the sum of the word of rd (where the
instruction accumulates) and the signed products, clipped once to 32 bits, and set OV when a word is clipped and
else keep it. (45_partial_simd_mul16.md R321, 45_partial_simd_mul16.md R323, 45_partial_simd_mul16.md R324,
45_partial_simd_mul16.md R326, 45_partial_simd_mul16.md R329, 45_partial_simd_mul16.md R332,
45_partial_simd_mul16.md R335, 45_partial_simd_mul16.md R338) -/
def Obligations.HalfwordProducts : Prop :=
  ∀ (s : State) (rd rs1 rs2 : Reg),
    LanesSigned s (.smbb16 rd rs1 rs2) rd 32 (fun j => s.bot rs1 j * s.bot rs2 j) ∧
    LanesSigned s (.smbt16 rd rs1 rs2) rd 32 (fun j => s.bot rs1 j * s.top rs2 j) ∧
    LanesSigned s (.smtt16 rd rs1 rs2) rd 32 (fun j => s.top rs1 j * s.top rs2 j) ∧
    LanesSigned s (.smds rd rs1 rs2) rd 32 (fun j => s.top rs1 j * s.top rs2 j - s.bot rs1 j * s.bot rs2 j) ∧
    LanesSigned s (.smdrs rd rs1 rs2) rd 32 (fun j => s.bot rs1 j * s.bot rs2 j - s.top rs1 j * s.top rs2 j) ∧
    LanesSigned s (.smxds rd rs1 rs2) rd 32 (fun j => s.top rs1 j * s.bot rs2 j - s.bot rs1 j * s.top rs2 j) ∧
    LanesSat s (.kmda rd rs1 rs2) rd 32 (-2 ^ 31) (2 ^ 31 - 1) (fun j =>
      s.top rs1 j * s.top rs2 j + s.bot rs1 j * s.bot rs2 j) ∧
    LanesSat s (.kmxda rd rs1 rs2) rd 32 (-2 ^ 31) (2 ^ 31 - 1) (fun j =>
      s.top rs1 j * s.bot rs2 j + s.bot rs1 j * s.top rs2 j) ∧
    LanesSat s (.kmabb rd rs1 rs2) rd 32 (-2 ^ 31) (2 ^ 31 - 1) (fun j =>
      s.sl 32 rd j + s.bot rs1 j * s.bot rs2 j) ∧
    LanesSat s (.kmabt rd rs1 rs2) rd 32 (-2 ^ 31) (2 ^ 31 - 1) (fun j =>
      s.sl 32 rd j + s.bot rs1 j * s.top rs2 j) ∧
    LanesSat s (.kmatt rd rs1 rs2) rd 32 (-2 ^ 31) (2 ^ 31 - 1) (fun j =>
      s.sl 32 rd j + s.top rs1 j * s.top rs2 j) ∧
    LanesSat s (.kmada rd rs1 rs2) rd 32 (-2 ^ 31) (2 ^ 31 - 1) (fun j =>
      s.sl 32 rd j + s.top rs1 j * s.top rs2 j + s.bot rs1 j * s.bot rs2 j) ∧
    LanesSat s (.kmaxda rd rs1 rs2) rd 32 (-2 ^ 31) (2 ^ 31 - 1) (fun j =>
      s.sl 32 rd j + s.top rs1 j * s.bot rs2 j + s.bot rs1 j * s.top rs2 j) ∧
    LanesSat s (.kmads rd rs1 rs2) rd 32 (-2 ^ 31) (2 ^ 31 - 1) (fun j =>
      s.sl 32 rd j + s.top rs1 j * s.top rs2 j - s.bot rs1 j * s.bot rs2 j) ∧
    LanesSat s (.kmadrs rd rs1 rs2) rd 32 (-2 ^ 31) (2 ^ 31 - 1) (fun j =>
      s.sl 32 rd j + s.bot rs1 j * s.bot rs2 j - s.top rs1 j * s.top rs2 j) ∧
    LanesSat s (.kmaxds rd rs1 rs2) rd 32 (-2 ^ 31) (2 ^ 31 - 1) (fun j =>
      s.sl 32 rd j + s.top rs1 j * s.bot rs2 j - s.bot rs1 j * s.top rs2 j) ∧
    LanesSat s (.kmsda rd rs1 rs2) rd 32 (-2 ^ 31) (2 ^ 31 - 1) (fun j =>
      s.sl 32 rd j - s.top rs1 j * s.top rs2 j - s.bot rs1 j * s.bot rs2 j) ∧
    LanesSat s (.kmsxda rd rs1 rs2) rd 32 (-2 ^ 31) (2 ^ 31 - 1) (fun j =>
      s.sl 32 rd j - s.top rs1 j * s.bot rs2 j - s.bot rs1 j * s.top rs2 j)

/-- PBSAD and PBSADA write the sum of the absolute differences of the bytes, PBSADA added to x[rd], modulo 2^XLEN;
SMAQA, UMAQA and SMAQA.SU add to each word of rd the four products of the bytes of that word, modulo 2^32. OV is not
written. (45_partial_simd_mul16.md R345, 45_partial_simd_mul16.md R346, 45_partial_simd_mul16.md R348,
45_partial_simd_mul16.md R349, 45_partial_simd_mul16.md R350) -/
def Obligations.ByteSums : Prop :=
  ∀ (s : State) (rd rs1 rs2 : Reg),
    UnsignedMod s (.pbsad rd rs1 rs2) rd (((List.range (s.lanes 8)).map fun j => |s.ul 8 rs1 j - s.ul 8 rs2 j|).sum) ∧
    UnsignedMod s (.pbsada rd rs1 rs2) rd (s.ux rd + ((List.range (s.lanes 8)).map fun j => |s.ul 8 rs1 j - s.ul 8 rs2 j|).sum) ∧
    LanesMod s (.smaqa rd rs1 rs2) rd 32 (fun j => s.ul 32 rd j +
      s.sl 8 rs1 (4 * j) * s.sl 8 rs2 (4 * j) +
      s.sl 8 rs1 (4 * j + 1) * s.sl 8 rs2 (4 * j + 1) +
      s.sl 8 rs1 (4 * j + 2) * s.sl 8 rs2 (4 * j + 2) +
      s.sl 8 rs1 (4 * j + 3) * s.sl 8 rs2 (4 * j + 3)) ∧
    LanesMod s (.umaqa rd rs1 rs2) rd 32 (fun j => s.ul 32 rd j +
      s.ul 8 rs1 (4 * j) * s.ul 8 rs2 (4 * j) +
      s.ul 8 rs1 (4 * j + 1) * s.ul 8 rs2 (4 * j + 1) +
      s.ul 8 rs1 (4 * j + 2) * s.ul 8 rs2 (4 * j + 2) +
      s.ul 8 rs1 (4 * j + 3) * s.ul 8 rs2 (4 * j + 3)) ∧
    LanesMod s (.smaqaSu rd rs1 rs2) rd 32 (fun j => s.ul 32 rd j +
      s.sl 8 rs1 (4 * j) * s.ul 8 rs2 (4 * j) +
      s.sl 8 rs1 (4 * j + 1) * s.ul 8 rs2 (4 * j + 1) +
      s.sl 8 rs1 (4 * j + 2) * s.ul 8 rs2 (4 * j + 2) +
      s.sl 8 rs1 (4 * j + 3) * s.ul 8 rs2 (4 * j + 3))

/-- The 64-bit additions and subtractions on 64-bit operands (register pairs on RV32, single registers on RV64):
wrapping, signed and unsigned halving, signed and unsigned saturating with OV set when the result is clipped. On
RV32 an odd field names the pair that its bits 4 to 1 give, so that 1 names the pair of x0, which reads as zero and
takes nothing: the model's choice where R24 leaves odd fields open (log entry 13). (46_64bit_profile.md R360,
46_64bit_profile.md R362, 46_64bit_profile.md R363, 46_64bit_profile.md R365, 46_64bit_profile.md R366,
46_64bit_profile.md R371) -/
def Obligations.SixtyFourBitSums : Prop :=
  ∀ (s : State) (rd rs1 rs2 : Reg),
    Mod64 s (.add64 rd rs1 rs2) rd (uval (s.x64 rs1) + uval (s.x64 rs2)) ∧
    Signed64 s (.radd64 rd rs1 rs2) rd ((sval (s.x64 rs1) + sval (s.x64 rs2)) / 2) ∧
    Mod64 s (.uradd64 rd rs1 rs2) rd ((uval (s.x64 rs1) + uval (s.x64 rs2)) / 2) ∧
    Sat64 s (.kadd64 rd rs1 rs2) rd (sval (s.x64 rs1) + sval (s.x64 rs2)) ∧
    UnsignedSat64 s (.ukadd64 rd rs1 rs2) rd (uval (s.x64 rs1) + uval (s.x64 rs2)) ∧
    Mod64 s (.sub64 rd rs1 rs2) rd (uval (s.x64 rs1) - uval (s.x64 rs2)) ∧
    Signed64 s (.rsub64 rd rs1 rs2) rd ((sval (s.x64 rs1) - sval (s.x64 rs2)) / 2) ∧
    Mod64 s (.ursub64 rd rs1 rs2) rd ((uval (s.x64 rs1) - uval (s.x64 rs2)) / 2) ∧
    Sat64 s (.ksub64 rd rs1 rs2) rd (sval (s.x64 rs1) - sval (s.x64 rs2)) ∧
    UnsignedSat64 s (.uksub64 rd rs1 rs2) rd (uval (s.x64 rs1) - uval (s.x64 rs2))

/-- SMAR64, SMSR64, UMAR64, UMSR64 add the products of the words to the 64-bit operand rd, or subtract them, modulo
2^64; the K forms clip the sum to 64 bits and set OV when it is clipped; MULR64 and MULSR64 write the exact 64-bit
product of the low words. On RV32 an odd field names the pair that its bits 4 to 1 give, so that 1 names the pair of
x0, which reads as zero and takes nothing: the model's choice where R24 leaves odd fields open (log entry 13).
(46_64bit_profile.md R373, 46_64bit_profile.md R374, 46_64bit_profile.md R375, 46_64bit_profile.md R377,
46_64bit_profile.md R380, 47_nonsimd.md R430, 47_nonsimd.md R431) -/
def Obligations.WordMultipliesTo64 : Prop :=
  ∀ (s : State) (rd rs1 rs2 : Reg),
    Mod64 s (.smar64 rd rs1 rs2) rd (uval (s.x64 rd) + overWords s fun j => s.sl 32 rs1 j * s.sl 32 rs2 j) ∧
    Mod64 s (.umar64 rd rs1 rs2) rd (uval (s.x64 rd) + overWords s fun j => s.ul 32 rs1 j * s.ul 32 rs2 j) ∧
    Sat64 s (.kmar64 rd rs1 rs2) rd (sval (s.x64 rd) + overWords s fun j => s.sl 32 rs1 j * s.sl 32 rs2 j) ∧
    UnsignedSat64 s (.ukmar64 rd rs1 rs2) rd (uval (s.x64 rd) + overWords s fun j => s.ul 32 rs1 j * s.ul 32 rs2 j) ∧
    Mod64 s (.smsr64 rd rs1 rs2) rd (uval (s.x64 rd) - overWords s fun j => s.sl 32 rs1 j * s.sl 32 rs2 j) ∧
    Mod64 s (.umsr64 rd rs1 rs2) rd (uval (s.x64 rd) - overWords s fun j => s.ul 32 rs1 j * s.ul 32 rs2 j) ∧
    Sat64 s (.kmsr64 rd rs1 rs2) rd (sval (s.x64 rd) - overWords s fun j => s.sl 32 rs1 j * s.sl 32 rs2 j) ∧
    UnsignedSat64 s (.ukmsr64 rd rs1 rs2) rd (uval (s.x64 rd) - overWords s fun j => s.ul 32 rs1 j * s.ul 32 rs2 j) ∧
    Mod64 s (.mulr64 rd rs1 rs2) rd (s.ul 32 rs1 0 * s.ul 32 rs2 0) ∧
    Signed64 s (.mulsr64 rd rs1 rs2) rd (s.sl 32 rs1 0 * s.sl 32 rs2 0)

/-- SMAL adds the products of the top and bottom halfwords of each word of x[rs2] to the 64-bit operand rs1; the
SMAL and SMSL instructions add the products of halfwords of each word, or their sums or differences, to the 64-bit
operand rd, or subtract them; all modulo 2^64. OV is not written. On RV32 an odd field names the pair that its bits
4 to 1 give, so that 1 names the pair of x0, which reads as zero and takes nothing: the model's choice where R24
leaves odd fields open (log entry 13). (45_partial_simd_mul16.md R339, 46_64bit_profile.md R382, 46_64bit_profile.md
R385, 46_64bit_profile.md R387, 46_64bit_profile.md R389, 46_64bit_profile.md R390, 46_64bit_profile.md R391) -/
def Obligations.HalfwordMultipliesTo64 : Prop :=
  ∀ (s : State) (rd rs1 rs2 : Reg),
    Mod64 s (.smal rd rs1 rs2) rd (uval (s.x64 rs1) + overWords s fun j => s.top rs2 j * s.bot rs2 j) ∧
    Mod64 s (.smalbb rd rs1 rs2) rd (uval (s.x64 rd) + overWords s fun j =>
      s.bot rs1 j * s.bot rs2 j) ∧
    Mod64 s (.smalbt rd rs1 rs2) rd (uval (s.x64 rd) + overWords s fun j =>
      s.bot rs1 j * s.top rs2 j) ∧
    Mod64 s (.smaltt rd rs1 rs2) rd (uval (s.x64 rd) + overWords s fun j =>
      s.top rs1 j * s.top rs2 j) ∧
    Mod64 s (.smalda rd rs1 rs2) rd (uval (s.x64 rd) + overWords s fun j =>
      s.bot rs1 j * s.bot rs2 j + s.top rs1 j * s.top rs2 j) ∧
    Mod64 s (.smalxda rd rs1 rs2) rd (uval (s.x64 rd) + overWords s fun j =>
      s.bot rs1 j * s.top rs2 j + s.top rs1 j * s.bot rs2 j) ∧
    Mod64 s (.smalds rd rs1 rs2) rd (uval (s.x64 rd) + overWords s fun j =>
      s.top rs1 j * s.top rs2 j - s.bot rs1 j * s.bot rs2 j) ∧
    Mod64 s (.smaldrs rd rs1 rs2) rd (uval (s.x64 rd) + overWords s fun j =>
      s.bot rs1 j * s.bot rs2 j - s.top rs1 j * s.top rs2 j) ∧
    Mod64 s (.smalxds rd rs1 rs2) rd (uval (s.x64 rd) + overWords s fun j =>
      s.top rs1 j * s.bot rs2 j - s.bot rs1 j * s.top rs2 j) ∧
    Mod64 s (.smslda rd rs1 rs2) rd (uval (s.x64 rd) - overWords s fun j =>
      s.bot rs1 j * s.bot rs2 j + s.top rs1 j * s.top rs2 j) ∧
    Mod64 s (.smslxda rd rs1 rs2) rd (uval (s.x64 rd) - overWords s fun j =>
      s.bot rs1 j * s.top rs2 j + s.top rs1 j * s.bot rs2 j)

/-- KADDH, KSUBH, UKADDH, UKSUBH and KHMBB, KHMBT, KHMTT compute on the low word's halfwords, clip to 16 bits
(signed, or unsigned for UKADDH and UKSUBH), and write the halfword sign-extended to XLEN; OV is set when the result
is clipped and else kept. (47_nonsimd.md R400, 47_nonsimd.md R402, 47_nonsimd.md R403, 47_nonsimd.md R404,
47_nonsimd.md R405, 47_nonsimd.md R406, 47_nonsimd.md R407, 47_nonsimd.md R408) -/
def Obligations.ScalarHalfwordSaturation : Prop :=
  ∀ (s : State) (rd rs1 rs2 : Reg),
    SignedSat s (.kaddh rd rs1 rs2) rd (-2 ^ 15) (2 ^ 15 - 1) (s.sl 16 rs1 0 + s.sl 16 rs2 0) ∧
    SignedClip s (.ukaddh rd rs1 rs2) rd (outside 0 (2 ^ 16 - 1) (s.ul 16 rs1 0 + s.ul 16 rs2 0))
      ((clamp 0 (2 ^ 16 - 1) (s.ul 16 rs1 0 + s.ul 16 rs2 0)).bmod (2 ^ 16)) ∧
    SignedSat s (.ksubh rd rs1 rs2) rd (-2 ^ 15) (2 ^ 15 - 1) (s.sl 16 rs1 0 - s.sl 16 rs2 0) ∧
    SignedClip s (.uksubh rd rs1 rs2) rd (outside 0 (2 ^ 16 - 1) (s.ul 16 rs1 0 - s.ul 16 rs2 0))
      ((clamp 0 (2 ^ 16 - 1) (s.ul 16 rs1 0 - s.ul 16 rs2 0)).bmod (2 ^ 16)) ∧
    SignedSat s (.khmbb rd rs1 rs2) rd (-2 ^ 15) (2 ^ 15 - 1) (s.bot rs1 0 * s.bot rs2 0 / 2 ^ 15) ∧
    SignedSat s (.khmbt rd rs1 rs2) rd (-2 ^ 15) (2 ^ 15 - 1) (s.bot rs1 0 * s.top rs2 0 / 2 ^ 15) ∧
    SignedSat s (.khmtt rd rs1 rs2) rd (-2 ^ 15) (2 ^ 15 - 1) (s.top rs1 0 * s.top rs2 0 / 2 ^ 15)

/-- KADDW, KSUBW, UKADDW, UKSUBW, the doubled products KDMxy and their accumulating forms KDMAxy (which clip the
product and then the sum), KSLLW, KSLLIW, KSLRAW, KSLRAW.u and KABSW compute on the low words, clip to 32 bits, and
write the word sign-extended to XLEN; OV is set when a clip happens and else kept. (47_nonsimd.md R410,
47_nonsimd.md R411, 47_nonsimd.md R413, 47_nonsimd.md R414, 47_nonsimd.md R417, 47_nonsimd.md R418, 47_nonsimd.md
R419, 47_nonsimd.md R421, 47_nonsimd.md R424) -/
def Obligations.ScalarWordSaturation : Prop :=
  ∀ (s : State) (rd rs1 rs2 : Reg) (imm5 : BitVec 5),
    SignedSat s (.kaddw rd rs1 rs2) rd (-2 ^ 31) (2 ^ 31 - 1) (s.sl 32 rs1 0 + s.sl 32 rs2 0) ∧
    SignedClip s (.ukaddw rd rs1 rs2) rd (outside 0 (2 ^ 32 - 1) (s.ul 32 rs1 0 + s.ul 32 rs2 0))
      ((clamp 0 (2 ^ 32 - 1) (s.ul 32 rs1 0 + s.ul 32 rs2 0)).bmod (2 ^ 32)) ∧
    SignedSat s (.ksubw rd rs1 rs2) rd (-2 ^ 31) (2 ^ 31 - 1) (s.sl 32 rs1 0 - s.sl 32 rs2 0) ∧
    SignedClip s (.uksubw rd rs1 rs2) rd (outside 0 (2 ^ 32 - 1) (s.ul 32 rs1 0 - s.ul 32 rs2 0))
      ((clamp 0 (2 ^ 32 - 1) (s.ul 32 rs1 0 - s.ul 32 rs2 0)).bmod (2 ^ 32)) ∧
    SignedSat s (.kdmbb rd rs1 rs2) rd (-2 ^ 31) (2 ^ 31 - 1) (s.bot rs1 0 * s.bot rs2 0 * 2) ∧
    SignedSat s (.kdmbt rd rs1 rs2) rd (-2 ^ 31) (2 ^ 31 - 1) (s.bot rs1 0 * s.top rs2 0 * 2) ∧
    SignedSat s (.kdmtt rd rs1 rs2) rd (-2 ^ 31) (2 ^ 31 - 1) (s.top rs1 0 * s.top rs2 0 * 2) ∧
    SignedClip s (.kdmabb rd rs1 rs2) rd
      (outside (-2 ^ 31) (2 ^ 31 - 1) (s.bot rs1 0 * s.bot rs2 0 * 2) ∨ outside (-2 ^ 31) (2 ^ 31 - 1) (s.sl 32 rd 0 + clamp (-2 ^ 31) (2 ^ 31 - 1) (s.bot rs1 0 * s.bot rs2 0 * 2)))
      (clamp (-2 ^ 31) (2 ^ 31 - 1) (s.sl 32 rd 0 + clamp (-2 ^ 31) (2 ^ 31 - 1) (s.bot rs1 0 * s.bot rs2 0 * 2))) ∧
    SignedClip s (.kdmabt rd rs1 rs2) rd
      (outside (-2 ^ 31) (2 ^ 31 - 1) (s.bot rs1 0 * s.top rs2 0 * 2) ∨ outside (-2 ^ 31) (2 ^ 31 - 1) (s.sl 32 rd 0 + clamp (-2 ^ 31) (2 ^ 31 - 1) (s.bot rs1 0 * s.top rs2 0 * 2)))
      (clamp (-2 ^ 31) (2 ^ 31 - 1) (s.sl 32 rd 0 + clamp (-2 ^ 31) (2 ^ 31 - 1) (s.bot rs1 0 * s.top rs2 0 * 2))) ∧
    SignedClip s (.kdmatt rd rs1 rs2) rd
      (outside (-2 ^ 31) (2 ^ 31 - 1) (s.top rs1 0 * s.top rs2 0 * 2) ∨ outside (-2 ^ 31) (2 ^ 31 - 1) (s.sl 32 rd 0 + clamp (-2 ^ 31) (2 ^ 31 - 1) (s.top rs1 0 * s.top rs2 0 * 2)))
      (clamp (-2 ^ 31) (2 ^ 31 - 1) (s.sl 32 rd 0 + clamp (-2 ^ 31) (2 ^ 31 - 1) (s.top rs1 0 * s.top rs2 0 * 2))) ∧
    SignedSat s (.ksllw rd rs1 rs2) rd (-2 ^ 31) (2 ^ 31 - 1) (s.sl 32 rs1 0 * 2 ^ ((s.x rs2).toNat % 32)) ∧
    SignedSat s (.kslliw rd rs1 imm5) rd (-2 ^ 31) (2 ^ 31 - 1) (s.sl 32 rs1 0 * 2 ^ imm5.toNat) ∧
    SignedSat s (.kslraw rd rs1 rs2) rd (-2 ^ 31) (2 ^ 31 - 1) (
      if ((s.x rs2).toNat : Int).bmod 64 < 0 then s.sl 32 rs1 0 / 2 ^ min (-(((s.x rs2).toNat : Int).bmod 64)).toNat 31
        else s.sl 32 rs1 0 * 2 ^ (((s.x rs2).toNat : Int).bmod 64).toNat) ∧
    SignedSat s (.kslrawU rd rs1 rs2) rd (-2 ^ 31) (2 ^ 31 - 1) (
      if ((s.x rs2).toNat : Int).bmod 64 < 0 then roundShift (s.sl 32 rs1 0) (min (-(((s.x rs2).toNat : Int).bmod 64)).toNat 31)
        else s.sl 32 rs1 0 * 2 ^ (((s.x rs2).toNat : Int).bmod 64).toNat) ∧
    SignedSat s (.kabsw rd rs1) rd (-2 ^ 31) (2 ^ 31 - 1) |s.sl 32 rs1 0|

/-- RADDW, RSUBW, URADDW, URSUBW halve the 32-bit sum or difference and sign-extend the word; MADDR32 and MSUBR32
add the product of the words to the word of rd, or subtract it, modulo 2^32; AVE is the signed average rounded up;
SRA.u, SRAI.u and SRAIW.u are right shifts rounded to nearest. OV is not written. (47_nonsimd.md R426, 47_nonsimd.md
R427, 47_nonsimd.md R429, 47_nonsimd.md R432, 47_nonsimd.md R435, 47_nonsimd.md R436, 47_nonsimd.md R439,
47_nonsimd.md R443, 49_rv64_misc_mul.md R539) -/
def Obligations.ScalarArithmetic : Prop :=
  ∀ (s : State) (rd rs1 rs2 : Reg) (imm5 : BitVec 5) (imm6 : BitVec 6),
    Signed s (.raddw rd rs1 rs2) rd ((s.sl 32 rs1 0 + s.sl 32 rs2 0) / 2) ∧
    Signed s (.uraddw rd rs1 rs2) rd (((s.ul 32 rs1 0 + s.ul 32 rs2 0) / 2).bmod (2 ^ 32)) ∧
    Signed s (.rsubw rd rs1 rs2) rd ((s.sl 32 rs1 0 - s.sl 32 rs2 0) / 2) ∧
    Signed s (.ursubw rd rs1 rs2) rd (((s.ul 32 rs1 0 - s.ul 32 rs2 0) / 2).bmod (2 ^ 32)) ∧
    Signed s (.maddr32 rd rs1 rs2) rd ((s.ul 32 rd 0 + s.ul 32 rs1 0 * s.ul 32 rs2 0).bmod (2 ^ 32)) ∧
    Signed s (.msubr32 rd rs1 rs2) rd ((s.ul 32 rd 0 - s.ul 32 rs1 0 * s.ul 32 rs2 0).bmod (2 ^ 32)) ∧
    Signed s (.ave rd rs1 rs2) rd ((s.sx rs1 + s.sx rs2 + 1) / 2) ∧
    Signed s (.sraU rd rs1 rs2) rd (roundShift (s.sx rs1) ((s.x rs2).toNat % s.xlen)) ∧
    Signed s (.sraiURv32 rd rs1 imm5) rd (roundShift (s.sx rs1) imm5.toNat) ∧
    Signed s (.sraiURv64 rd rs1 imm6) rd (roundShift (s.sx rs1) imm6.toNat) ∧
    Signed s (.sraiwU rd rs1 imm5) rd (roundShift (s.sl 32 rs1 0) imm5.toNat)

/-- BITREV and BITREVI reverse the bits from bit 0 to the bit the amount names and clear those above; INSB replaces
the byte of rd that the immediate names by the low byte of x[rs1]; WEXT and WEXTI write the 32 bits of the 64-bit
operand rs1 that start at the amount, sign-extended. OV is not written. On RV32 an odd field names the pair that its
bits 4 to 1 give, so that 1 names the pair of x0, which WEXT and WEXTI read as zero: the model's choice where R24
leaves odd fields open (log entry 13). (47_nonsimd.md R437, 47_nonsimd.md R438, 47_nonsimd.md R440, 47_nonsimd.md
R441, 47_nonsimd.md R442) -/
def Obligations.ScalarBitManipulation : Prop :=
  ∀ (s : State) (rd rs1 rs2 : Reg) (imm2 : BitVec 2) (imm3 : BitVec 3) (imm5 : BitVec 5) (imm6 : BitVec 6),
    Bits s (.bitrev rd rs1 rs2) rd (fun b => decide (b ≤ (s.x rs2).toNat % s.xlen) && (s.x rs1).getLsbD ((s.x rs2).toNat % s.xlen - b)) ∧
    Bits s (.bitreviRv32 rd rs1 imm5) rd (fun b => decide (b ≤ imm5.toNat) && (s.x rs1).getLsbD (imm5.toNat - b)) ∧
    Bits s (.bitreviRv64 rd rs1 imm6) rd (fun b => decide (b ≤ imm6.toNat) && (s.x rs1).getLsbD (imm6.toNat - b)) ∧
    Lanes s (.insbRv32 rd rs1 imm2) rd 8 (fun j r => r = if j = imm2.toNat then lane 8 (s.x rs1) 0 else lane 8 (s.x rd) j) ∧
    Lanes s (.insbRv64 rd rs1 imm3) rd 8 (fun j r => r = if j = imm3.toNat then lane 8 (s.x rs1) 0 else lane 8 (s.x rd) j) ∧
    Bits s (.wext rd rs1 rs2) rd (fun b => (s.x64 rs1).getLsbD ((s.x rs2).toNat % 32 + min b 31)) ∧
    Bits s (.wexti rd rs1 imm5) rd (fun b => (s.x64 rs1).getLsbD (imm5.toNat + min b 31))

/-- On RV64 SMxy32, SMDS32, SMDRS32 and SMXDS32 write the exact 64-bit product of two words, or the difference of
two products; KMDA32, KMXDA32 and the accumulating KM instructions add the signed products to x[rd] (where the
instruction accumulates), clip once to 64 bits, and set OV when the result is clipped and else keep it.
(49_rv64_misc_mul.md R520, 49_rv64_misc_mul.md R522, 49_rv64_misc_mul.md R523, 49_rv64_misc_mul.md R526,
49_rv64_misc_mul.md R528, 49_rv64_misc_mul.md R531, 49_rv64_misc_mul.md R533) -/
def Obligations.WordProducts64 : Prop :=
  ∀ (s : State) (rd rs1 rs2 : Reg), s.cfg.xlen = .rv64 →
    Signed s (.smbb32 rd rs1 rs2) rd (s.sl 32 rs1 0 * s.sl 32 rs2 0) ∧
    Signed s (.smbt32 rd rs1 rs2) rd (s.sl 32 rs1 0 * s.sl 32 rs2 1) ∧
    Signed s (.smtt32 rd rs1 rs2) rd (s.sl 32 rs1 1 * s.sl 32 rs2 1) ∧
    Signed s (.smds32 rd rs1 rs2) rd (s.sl 32 rs1 1 * s.sl 32 rs2 1 - s.sl 32 rs1 0 * s.sl 32 rs2 0) ∧
    Signed s (.smdrs32 rd rs1 rs2) rd (s.sl 32 rs1 0 * s.sl 32 rs2 0 - s.sl 32 rs1 1 * s.sl 32 rs2 1) ∧
    Signed s (.smxds32 rd rs1 rs2) rd (s.sl 32 rs1 1 * s.sl 32 rs2 0 - s.sl 32 rs1 0 * s.sl 32 rs2 1) ∧
    SignedSat s (.kmabb32 rd rs1 rs2) rd (-2 ^ 63) (2 ^ 63 - 1)
      (s.sx rd + s.sl 32 rs1 0 * s.sl 32 rs2 0) ∧
    SignedSat s (.kmabt32 rd rs1 rs2) rd (-2 ^ 63) (2 ^ 63 - 1)
      (s.sx rd + s.sl 32 rs1 0 * s.sl 32 rs2 1) ∧
    SignedSat s (.kmatt32 rd rs1 rs2) rd (-2 ^ 63) (2 ^ 63 - 1)
      (s.sx rd + s.sl 32 rs1 1 * s.sl 32 rs2 1) ∧
    SignedSat s (.kmda32 rd rs1 rs2) rd (-2 ^ 63) (2 ^ 63 - 1)
      (s.sl 32 rs1 1 * s.sl 32 rs2 1 + s.sl 32 rs1 0 * s.sl 32 rs2 0) ∧
    SignedSat s (.kmxda32 rd rs1 rs2) rd (-2 ^ 63) (2 ^ 63 - 1)
      (s.sl 32 rs1 1 * s.sl 32 rs2 0 + s.sl 32 rs1 0 * s.sl 32 rs2 1) ∧
    SignedSat s (.kmada32 rd rs1 rs2) rd (-2 ^ 63) (2 ^ 63 - 1)
      (s.sx rd + s.sl 32 rs1 1 * s.sl 32 rs2 1 + s.sl 32 rs1 0 * s.sl 32 rs2 0) ∧
    SignedSat s (.kmaxda32 rd rs1 rs2) rd (-2 ^ 63) (2 ^ 63 - 1)
      (s.sx rd + s.sl 32 rs1 1 * s.sl 32 rs2 0 + s.sl 32 rs1 0 * s.sl 32 rs2 1) ∧
    SignedSat s (.kmads32 rd rs1 rs2) rd (-2 ^ 63) (2 ^ 63 - 1)
      (s.sx rd + s.sl 32 rs1 1 * s.sl 32 rs2 1 - s.sl 32 rs1 0 * s.sl 32 rs2 0) ∧
    SignedSat s (.kmadrs32 rd rs1 rs2) rd (-2 ^ 63) (2 ^ 63 - 1)
      (s.sx rd + s.sl 32 rs1 0 * s.sl 32 rs2 0 - s.sl 32 rs1 1 * s.sl 32 rs2 1) ∧
    SignedSat s (.kmaxds32 rd rs1 rs2) rd (-2 ^ 63) (2 ^ 63 - 1)
      (s.sx rd + s.sl 32 rs1 1 * s.sl 32 rs2 0 - s.sl 32 rs1 0 * s.sl 32 rs2 1) ∧
    SignedSat s (.kmsda32 rd rs1 rs2) rd (-2 ^ 63) (2 ^ 63 - 1)
      (s.sx rd - s.sl 32 rs1 1 * s.sl 32 rs2 1 - s.sl 32 rs1 0 * s.sl 32 rs2 0) ∧
    SignedSat s (.kmsxda32 rd rs1 rs2) rd (-2 ^ 63) (2 ^ 63 - 1)
      (s.sx rd - s.sl 32 rs1 1 * s.sl 32 rs2 0 - s.sl 32 rs1 0 * s.sl 32 rs2 1)

/-- On RV32, for an even register number f other than 0, the 64-bit operand f has x[f] in bits 31 to 0 and x[f+1] in
bits 63 to 32; writing v to it leaves v[31:0] in x[f] and v[63:32] in x[f+1], leaves every other register as it was,
and changes no state but the registers. (10_state.md R22) -/
def Obligations.RegisterPairLayout : Prop :=
  ∀ (s : State) (f : Reg) (v : XWord), s.cfg.xlen = .rv32 → f.getLsbD 0 = false → f ≠ 0#5 →
    (s.x64 f).extractLsb' 0 32 = (s.x f).setWidth 32 ∧
    (s.x64 f).extractLsb' 32 32 = (s.x (f + 1#5)).setWidth 32 ∧
    (s.setX64 f v).x f = (v.extractLsb' 0 32).setWidth 64 ∧
    (s.setX64 f v).x (f + 1#5) = (v.extractLsb' 32 32).setWidth 64 ∧
    (∀ r, r ≠ f → r ≠ f + 1#5 → (s.setX64 f v).x r = s.x r) ∧
    s.setX64 f v = { s with regs := (s.setX64 f v).regs }
end

