-- ==== Sys2Proof/Laws/State.lean ====
section
/-!
SUPPORT. What each update of the state does to each field, so that no later proof unfolds a record update.
-/

namespace Sys2Proof.Machine

/-! `State.advance` changes the pc. -/

@[simp] theorem advance_cfg (s : State) : s.advance.cfg = s.cfg := rfl
@[simp] theorem advance_regs (s : State) : s.advance.regs = s.regs := rfl
@[simp] theorem advance_pc (s : State) : s.advance.pc = wrapX s.cfg.xlen (s.pc + 4#64) := rfl
@[simp] theorem advance_ov (s : State) : s.advance.ov = s.ov := rfl
@[simp] theorem advance_vs (s : State) : s.advance.vs = s.vs := rfl
@[simp] theorem advance_vsVs (s : State) : s.advance.vsVs = s.vsVs := rfl
@[simp] theorem advance_v (s : State) : s.advance.v = s.v := rfl
@[simp] theorem advance_mem (s : State) : s.advance.mem = s.mem := rfl
@[simp] theorem advance_x (s : State) (r : Reg) : s.advance.x r = s.x r := rfl
@[simp] theorem advance_x64 (s : State) (r : Reg) : s.advance.x64 r = s.x64 r := rfl
@[simp] theorem advance_byte (s : State) (a : Nat) : s.advance.byte a = s.byte a := rfl

/-! `State.setX` changes the registers. -/

@[simp] theorem setX_cfg (s : State) (r : Reg) (v : XWord) : (s.setX r v).cfg = s.cfg := by
  unfold State.setX; split <;> rfl
@[simp] theorem setX_pc (s : State) (r : Reg) (v : XWord) : (s.setX r v).pc = s.pc := by
  unfold State.setX; split <;> rfl
@[simp] theorem setX_ov (s : State) (r : Reg) (v : XWord) : (s.setX r v).ov = s.ov := by
  unfold State.setX; split <;> rfl
@[simp] theorem setX_vs (s : State) (r : Reg) (v : XWord) : (s.setX r v).vs = s.vs := by
  unfold State.setX; split <;> rfl
@[simp] theorem setX_vsVs (s : State) (r : Reg) (v : XWord) : (s.setX r v).vsVs = s.vsVs := by
  unfold State.setX; split <;> rfl
@[simp] theorem setX_v (s : State) (r : Reg) (v : XWord) : (s.setX r v).v = s.v := by
  unfold State.setX; split <;> rfl
@[simp] theorem setX_mem (s : State) (r : Reg) (v : XWord) : (s.setX r v).mem = s.mem := by
  unfold State.setX; split <;> rfl

/-! `State.setPair` and `State.setX64` change the registers. -/

@[simp] theorem setPair_cfg (s : State) (r : Reg) (v : XWord) : (s.setPair r v).cfg = s.cfg := by
  unfold State.setPair; split <;> simp
@[simp] theorem setPair_pc (s : State) (r : Reg) (v : XWord) : (s.setPair r v).pc = s.pc := by
  unfold State.setPair; split <;> simp
@[simp] theorem setPair_ov (s : State) (r : Reg) (v : XWord) : (s.setPair r v).ov = s.ov := by
  unfold State.setPair; split <;> simp
@[simp] theorem setPair_vs (s : State) (r : Reg) (v : XWord) : (s.setPair r v).vs = s.vs := by
  unfold State.setPair; split <;> simp
@[simp] theorem setPair_vsVs (s : State) (r : Reg) (v : XWord) : (s.setPair r v).vsVs = s.vsVs := by
  unfold State.setPair; split <;> simp
@[simp] theorem setPair_v (s : State) (r : Reg) (v : XWord) : (s.setPair r v).v = s.v := by
  unfold State.setPair; split <;> simp
@[simp] theorem setPair_mem (s : State) (r : Reg) (v : XWord) : (s.setPair r v).mem = s.mem := by
  unfold State.setPair; split <;> simp

@[simp] theorem setX64_cfg (s : State) (r : Reg) (v : XWord) : (s.setX64 r v).cfg = s.cfg := by
  unfold State.setX64; split <;> simp
@[simp] theorem setX64_pc (s : State) (r : Reg) (v : XWord) : (s.setX64 r v).pc = s.pc := by
  unfold State.setX64; split <;> simp
@[simp] theorem setX64_ov (s : State) (r : Reg) (v : XWord) : (s.setX64 r v).ov = s.ov := by
  unfold State.setX64; split <;> simp
@[simp] theorem setX64_vs (s : State) (r : Reg) (v : XWord) : (s.setX64 r v).vs = s.vs := by
  unfold State.setX64; split <;> simp
@[simp] theorem setX64_vsVs (s : State) (r : Reg) (v : XWord) : (s.setX64 r v).vsVs = s.vsVs := by
  unfold State.setX64; split <;> simp
@[simp] theorem setX64_v (s : State) (r : Reg) (v : XWord) : (s.setX64 r v).v = s.v := by
  unfold State.setX64; split <;> simp
@[simp] theorem setX64_mem (s : State) (r : Reg) (v : XWord) : (s.setX64 r v).mem = s.mem := by
  unfold State.setX64; split <;> simp

/-! `State.markDirty` changes the VS fields. -/

@[simp] theorem markDirty_cfg (s : State) : s.markDirty.cfg = s.cfg := rfl
@[simp] theorem markDirty_regs (s : State) : s.markDirty.regs = s.regs := rfl
@[simp] theorem markDirty_pc (s : State) : s.markDirty.pc = s.pc := rfl
@[simp] theorem markDirty_ov (s : State) : s.markDirty.ov = s.ov := rfl
@[simp] theorem markDirty_v (s : State) : s.markDirty.v = s.v := rfl
@[simp] theorem markDirty_mem (s : State) : s.markDirty.mem = s.mem := rfl
@[simp] theorem markDirty_vs (s : State) :
    s.markDirty.vs = if s.cfg.hasVs then VState.touched s.vs else s.vs := rfl
@[simp] theorem markDirty_vsVs (s : State) :
    s.markDirty.vsVs = if s.virtual then VState.touched s.vsVs else s.vsVs := rfl

/-! `State.noteClip` changes `OV` and the VS fields. -/

@[simp] theorem noteClip_cfg (s : State) (c : Bool) : (s.noteClip c).cfg = s.cfg := by
  unfold State.noteClip; dsimp only; split <;> rfl
@[simp] theorem noteClip_regs (s : State) (c : Bool) : (s.noteClip c).regs = s.regs := by
  unfold State.noteClip; dsimp only; split <;> rfl
@[simp] theorem noteClip_pc (s : State) (c : Bool) : (s.noteClip c).pc = s.pc := by
  unfold State.noteClip; dsimp only; split <;> rfl
@[simp] theorem noteClip_ov (s : State) (c : Bool) : (s.noteClip c).ov = (s.ov || c) := by
  unfold State.noteClip; dsimp only; split <;> rfl
@[simp] theorem noteClip_v (s : State) (c : Bool) : (s.noteClip c).v = s.v := by
  unfold State.noteClip; dsimp only; split <;> rfl
@[simp] theorem noteClip_mem (s : State) (c : Bool) : (s.noteClip c).mem = s.mem := by
  unfold State.noteClip; dsimp only; split <;> rfl

/-! `State.setOv` changes `OV` and the VS fields. -/

@[simp] theorem setOv_cfg (s : State) (b : Bool) : (s.setOv b).cfg = s.cfg := rfl
@[simp] theorem setOv_regs (s : State) (b : Bool) : (s.setOv b).regs = s.regs := rfl
@[simp] theorem setOv_pc (s : State) (b : Bool) : (s.setOv b).pc = s.pc := rfl
@[simp] theorem setOv_ov (s : State) (b : Bool) : (s.setOv b).ov = b := rfl
@[simp] theorem setOv_v (s : State) (b : Bool) : (s.setOv b).v = s.v := rfl
@[simp] theorem setOv_mem (s : State) (b : Bool) : (s.setOv b).mem = s.mem := rfl
@[simp] theorem setOv_vs (s : State) (b : Bool) :
    (s.setOv b).vs = if s.cfg.hasVs then VState.touched s.vs else s.vs := rfl
@[simp] theorem setOv_vsVs (s : State) (b : Bool) :
    (s.setOv b).vsVs = if s.virtual then VState.touched s.vsVs else s.vsVs := rfl

/-! What reads only some fields sees only updates of those. -/

theorem x_congr {s t : State} (r : Reg) (hc : t.cfg = s.cfg) (hr : t.regs = s.regs) : t.x r = s.x r := by
  simp [State.x, hc, hr]

theorem vxsatOff_congr {s t : State} (hc : t.cfg = s.cfg) (h1 : t.vs = s.vs) (h2 : t.vsVs = s.vsVs)
    (hv : t.v = s.v) : t.vxsatOff = s.vxsatOff := by
  simp [State.vxsatOff, State.virtual, hc, h1, h2, hv]

end Sys2Proof.Machine
end

