-- ==== Sys2Proof/Laws/Registers.lean ====
section
/-!
SUPPORT. Reading and writing GPRs, register pairs and 64-bit operands (rules R20 to R24, R360).
-/

namespace Sys2Proof.Machine

@[simp] theorem wrapX_wrapX (x : Xlen) (v : XWord) : wrapX x (wrapX x v) = wrapX x v := by
  cases x
  · simp only [wrapX]
    ext i hi
    simp only [BitVec.getElem_setWidth, BitVec.getLsbD_setWidth]
    by_cases h : i < 32
    · simp [h, hi]
    · simp [h]
  · rfl

/-- The pc plus 4 is the same whether the pc was cut to XLEN bits before or not. -/
theorem wrapX_add_four (x : Xlen) (v : XWord) : wrapX x (wrapX x v + 4#64) = wrapX x (v + 4#64) := by
  cases x
  · simp only [wrapX]
    apply BitVec.eq_of_toNat_eq
    simp only [BitVec.toNat_setWidth, BitVec.toNat_add, BitVec.toNat_ofNat]
    omega
  · rfl

@[simp] theorem pcv_wrap (s : State) : wrapX s.cfg.xlen s.pcv = s.pcv := wrapX_wrapX _ _

theorem advance_pcv (s : State) : s.advance.pcv = wrapX s.cfg.xlen (s.pcv + 4#64) := by
  unfold State.pcv
  simp [wrapX_add_four]

/-- `x0` reads zero (rule R20). -/
@[simp] theorem x_zero (s : State) : s.x 0#5 = 0#64 := rfl

/-- A register holds at most XLEN bits (rule R20). -/
@[simp] theorem wrapX_x (s : State) (r : Reg) : wrapX s.cfg.xlen (s.x r) = s.x r := by
  unfold State.x
  split
  · cases s.cfg.xlen <;> rfl
  · exact wrapX_wrapX _ _

/-- A write to `x0` changes nothing (rule R20). -/
@[simp] theorem setX_zero (s : State) (v : XWord) : s.setX 0#5 v = s := rfl

/-- The register written holds the value, cut to XLEN bits. -/
theorem x_setX_same (s : State) (r : Reg) (v : XWord) (h : r ≠ 0#5) :
    (s.setX r v).x r = wrapX s.cfg.xlen v := by
  simp [State.setX, State.x, h]

/-- Every other register is as it was. -/
theorem x_setX_other (s : State) (r q : Reg) (v : XWord) (h : q ≠ r) : (s.setX r v).x q = s.x q := by
  unfold State.setX
  by_cases hr : r = 0#5
  · simp [hr]
  · simp only [hr, if_false, State.x]
    by_cases hq : q = 0#5
    · simp [hq]
    · have hne : r.toNat ≠ q.toNat := fun e => h (BitVec.eq_of_toNat_eq e.symm)
      simp [hq, hne]

theorem x_setX (s : State) (r q : Reg) (v : XWord) :
    (s.setX r v).x q = if q = 0#5 then 0#64 else if q = r then wrapX s.cfg.xlen v else s.x q := by
  by_cases hq : q = 0#5
  · subst hq; simp
  · by_cases h : q = r
    · subst h; simp [hq, x_setX_same]
    · simp [hq, h, x_setX_other]

theorem pairLow_ne_pairHigh (f : Reg) : pairLow f ≠ pairHigh f := by
  revert f; decide

theorem pairHigh_ne_zero (f : Reg) : pairHigh f ≠ 0#5 := by
  revert f; decide

theorem setWidth_wrapX (x : Xlen) (v : XWord) : (wrapX x v).setWidth 32 = v.setWidth 32 := by
  cases x
  · simp only [wrapX]
    apply BitVec.eq_of_toNat_eq
    simp
  · rfl

/-- The pair written holds the value (rule R22). -/
theorem pair_setPair_same (s : State) (f : Reg) (v : XWord) (h : pairLow f ≠ 0#5) :
    (s.setPair f v).pair f = v := by
  simp only [State.setPair, State.pair, h, if_false]
  rw [x_setX_same _ _ _ (pairHigh_ne_zero f), x_setX_other _ _ _ _ (pairLow_ne_pairHigh f),
    x_setX_same _ _ _ h, setWidth_wrapX, setWidth_wrapX]
  ext i hi
  simp only [BitVec.getElem_append, BitVec.getElem_setWidth, BitVec.getLsbD_setWidth, BitVec.getLsbD_extractLsb']
  by_cases hlt : i < 32
  · simp [hlt, hi]
  · have h2 : i - 32 < 32 := by omega
    have h3 : 32 + (i - 32) = i := by omega
    have h4 : i - 32 < 64 := by omega
    simp [hlt, h2, h3, h4, BitVec.getLsbD_eq_getElem hi]

/-- The pair of `x0` takes nothing (rule R23). -/
theorem setPair_zero (s : State) (f : Reg) (v : XWord) (h : pairLow f = 0#5) : s.setPair f v = s := by
  simp [State.setPair, h]

/-- A register outside the pair is as it was (rule R22). -/
theorem x_setPair_other (s : State) (f q : Reg) (v : XWord) (h1 : q ≠ pairLow f) (h2 : q ≠ pairHigh f) :
    (s.setPair f v).x q = s.x q := by
  unfold State.setPair
  split
  · rfl
  · rw [x_setX_other _ _ _ _ h2, x_setX_other _ _ _ _ h1]

end Sys2Proof.Machine
end

