-- ==== Sys2Proof/Laws/Lanes.lean ====
section
/-!
SUPPORT. Lanes (rule R11): the lanes of a value built from lanes, and the clip that any of them makes.
-/

namespace Sys2Proof.Machine

/-- Bit b of a value built from n lanes of width w. -/
theorem getLsbD_packLanes (w n : Nat) (f : Nat → BitVec w) (hw : 0 < w) (hn : w * n ≤ 64) (b : Nat) :
    (packLanes w n f).getLsbD b = (decide (b < w * n) && (f (b / w)).getLsbD (b % w)) := by
  induction n with
  | zero => simp [packLanes]
  | succ n ih =>
    have hmul : w * (n + 1) = w * n + w := Nat.mul_succ w n
    have hn' : w * n ≤ 64 := by omega
    simp only [packLanes, BitVec.getLsbD_or, ih hn', BitVec.getLsbD_shiftLeft, BitVec.getLsbD_setWidth]
    by_cases h1 : b < w * n
    · have h2 : b < w * (n + 1) := by omega
      simp [h1, h2]
    · by_cases h2 : b < w * (n + 1)
      · have hdiv : b / w = n := by
          have e : b = (b - w * n) + w * n := by omega
          rw [e, Nat.add_mul_div_left _ _ hw, Nat.div_eq_of_lt (by omega)]
          omega
        have hmod : b % w = b - w * n := by
          have e : b = (b - w * n) + w * n := by omega
          rw [e, Nat.add_mul_mod_self_left, Nat.mod_eq_of_lt (by omega)]
          omega
        have h3 : b < 64 := by omega
        have h4 : b - w * n < 64 := by omega
        simp [h1, h2, h3, h4, hdiv, hmod]
      · have h5 : (f n).getLsbD (b - w * n) = false := BitVec.getLsbD_of_ge _ _ (by omega)
        simp [h1, h2, h5]

/-- Lane j of a value built from lanes is the j-th of them (rule R11). -/
theorem lane_packLanes (w n : Nat) (f : Nat → BitVec w) (hn : w * n ≤ 64) (j : Nat) (hj : j < n) :
    lane w (packLanes w n f) j = f j := by
  apply BitVec.eq_of_getLsbD_eq
  intro i hi
  have hw : 0 < w := by omega
  have hb : w * j + i < w * n := by
    have : w * (j + 1) ≤ w * n := Nat.mul_le_mul_left w hj
    have : w * (j + 1) = w * j + w := Nat.mul_succ w j
    omega
  have hdiv : (w * j + i) / w = j := by
    rw [Nat.mul_add_div hw, Nat.div_eq_of_lt hi, Nat.add_zero]
  have hmod : (w * j + i) % w = i := by
    rw [Nat.mul_add_mod, Nat.mod_eq_of_lt hi]
  simp [lane, getLsbD_packLanes w n f hw hn, hi, hb, hdiv, hmod]

/-- A value of n lanes is zero above them. -/
theorem packLanes_high (w n : Nat) (f : Nat → BitVec w) (hw : 0 < w) (hn : w * n ≤ 64) (b : Nat) (hb : w * n ≤ b) :
    (packLanes w n f).getLsbD b = false := by
  rw [getLsbD_packLanes w n f hw hn b]
  simp [Nat.not_lt.mpr hb]

/-- Lane j does not see the cut to XLEN bits when it lies below XLEN. -/
theorem lane_wrapX (x : Xlen) (w j : Nat) (v : XWord) (h : w * j + w ≤ x.bits) :
    lane w (wrapX x v) j = lane w v j := by
  cases x
  · apply BitVec.eq_of_getLsbD_eq
    intro i hi
    have : Xlen.bits .rv32 = 32 := rfl
    have h1 : w * j + i < 32 := by omega
    have h2 : w * j + i < 64 := by omega
    simp [lane, wrapX, hi, h1, h2]
  · rfl

/-- A lane below the lane count lies below XLEN. -/
theorem lane_below (x : Xlen) (w j : Nat) (hj : j < x.bits / w) : w * j + w ≤ x.bits := by
  have h1 : w * (j + 1) ≤ w * (x.bits / w) := Nat.mul_le_mul_left w hj
  have h2 : w * (x.bits / w) ≤ x.bits := Nat.mul_div_le _ _
  have h3 : w * (j + 1) = w * j + w := Nat.mul_succ w j
  omega

theorem bits_le (x : Xlen) : x.bits ≤ 64 := by cases x <;> decide

/-- The lanes of a register written with lanes (rules R11, R20). -/
theorem lane_setX_lanesOf (s : State) (rd : Reg) (w : Nat) (f : Nat → Int) (h : rd ≠ 0#5) (j : Nat)
    (hj : j < s.lanes w) : lane w ((s.setX rd (s.lanesOf w f)).x rd) j = trunc w (f j) := by
  have hb := lane_below s.cfg.xlen w j hj
  have hle : w * s.lanes w ≤ 64 := Nat.le_trans (Nat.mul_div_le _ _) (bits_le s.cfg.xlen)
  rw [x_setX_same _ _ _ h, lane_wrapX _ _ _ _ hb]
  exact lane_packLanes w (s.lanes w) _ hle j hj

/-- `OV` is set by a lane instruction exactly when one of its lanes clips (rule R15). -/
theorem anyClip_iff (n : Nat) (f : Nat → Clipped) : anyClip n f = true ↔ ∃ j, j < n ∧ (f j).clip = true := by
  induction n with
  | zero => simp [anyClip]
  | succ n ih =>
    simp only [anyClip, Bool.or_eq_true, ih]
    constructor
    · rintro (⟨j, hj, hc⟩ | hc)
      · exact ⟨j, by omega, hc⟩
      · exact ⟨n, by omega, hc⟩
    · rintro ⟨j, hj, hc⟩
      by_cases h : j = n
      · exact Or.inr (h ▸ hc)
      · exact Or.inl ⟨j, by omega, hc⟩

end Sys2Proof.Machine
end

