-- ==== Sys2Proof/Laws/Memory.lean ====
section
/-!
SUPPORT. Memory (rule R41): read after write, the other addresses, and the canonical form.
-/

namespace Sys2Proof.Machine

/-- The byte just stored is read back. -/
theorem get_set_same (m : List Host.Cell) (k : Nat) (v : Byte) : Memory.get (Memory.set m k v) k = some v := by
  induction m with
  | nil => simp [Memory.set, Memory.get]
  | cons c rest ih =>
    obtain ⟨a, b⟩ := c
    simp only [Memory.set]
    split
    · simp [Memory.get]
    · split
      · simp [Memory.get]
      · rename_i h1 h2
        have : a ≠ k := fun e => h2 e.symm
        simp [Memory.get, this, ih]

/-- Every other address reads as before. -/
theorem get_set_other (m : List Host.Cell) (k a : Nat) (v : Byte) (h : a ≠ k) :
    Memory.get (Memory.set m k v) a = Memory.get m a := by
  induction m with
  | nil => simp [Memory.set, Memory.get, Ne.symm h]
  | cons c rest ih =>
    obtain ⟨b, w⟩ := c
    simp only [Memory.set]
    split
    · simp [Memory.get, Ne.symm h]
    · split
      · rename_i h1 h2
        subst h2
        simp [Memory.get, Ne.symm h]
      · simp [Memory.get, ih]

/-- The byte at `a` after n bytes of `v` were stored from `addr` on (rule R41). -/
theorem get_write (m : List Host.Cell) (addr n v a : Nat) :
    Memory.get (Memory.write m addr n v) a =
      if addr ≤ a ∧ a < addr + n then some (BitVec.ofNat 8 (v / 256 ^ (a - addr))) else Memory.get m a := by
  induction n generalizing m addr v with
  | zero =>
    simp [Memory.write]
  | succ n ih =>
    simp only [Memory.write, ih]
    by_cases h : a = addr
    · subst h
      simp [get_set_same]
    · by_cases h3 : addr + 1 ≤ a ∧ a < addr + 1 + n
      · have h4 : addr ≤ a ∧ a < addr + (n + 1) := by omega
        have h5 : a - addr = (a - (addr + 1)) + 1 := by omega
        rw [if_pos h3, if_pos h4, h5, Nat.pow_succ', Nat.div_div_eq_div_mul]
      · have h4 : ¬(addr ≤ a ∧ a < addr + (n + 1)) := by omega
        rw [if_neg h3, if_neg h4, get_set_other _ _ _ _ h]

/-- The n bytes just stored are read back as the value's low n bytes. -/
theorem read_congr (m m' : List Host.Cell) (addr n : Nat)
    (h : ∀ i, i < n → Memory.get m' (addr + i) = Memory.get m (addr + i)) :
    Memory.read m' addr n = Memory.read m addr n := by
  induction n generalizing addr with
  | zero => rfl
  | succ n ih =>
    have h0 := h 0 (by omega)
    have hs : Memory.read m' (addr + 1) n = Memory.read m (addr + 1) n :=
      ih (addr + 1) fun i hi => by
        have := h (i + 1) (by omega)
        rwa [show addr + (i + 1) = addr + 1 + i by omega] at this
    simp only [Nat.add_zero] at h0
    simp only [Memory.read, h0, hs]

/-- The n bytes just stored are read back (rule R41, little-endian). -/
theorem read_write (m : List Host.Cell) (addr n v : Nat) :
    Memory.read (Memory.write m addr n v) addr n = some (v % 256 ^ n) := by
  induction n generalizing m addr v with
  | zero => simp [Memory.read, Nat.mod_one]
  | succ n ih =>
    have hb : Memory.get (Memory.write m addr (n + 1) v) addr = some (BitVec.ofNat 8 v) := by
      rw [get_write]; simp
    have hr : Memory.read (Memory.write m addr (n + 1) v) (addr + 1) n = some (v / 256 % 256 ^ n) := by
      simp only [Memory.write]; exact ih _ _ _
    simp only [Memory.read, hb, hr, BitVec.toNat_ofNat]
    have h256 : v % 256 ^ (n + 1) = v % 256 + 256 * (v / 256 % 256 ^ n) := by
      rw [Nat.pow_succ' (n := n), Nat.mod_mul (a := 256)]
    rw [h256]

/-- An address that one strictly rising list is above stays below it after a store at a higher one. -/
theorem sortedFrom_set (m : List Host.Cell) (l k : Nat) (v : Byte) (hl : l < k) (h : Memory.sortedFrom l m = true) :
    Memory.sortedFrom l (Memory.set m k v) = true := by
  induction m generalizing l with
  | nil => simp [Memory.set, Memory.sortedFrom, hl]
  | cons c rest ih =>
    obtain ⟨a, b⟩ := c
    simp only [Memory.sortedFrom, Bool.and_eq_true, decide_eq_true_eq] at h
    simp only [Memory.set]
    split
    · rename_i h1
      simp [Memory.sortedFrom, hl, h1, h.2]
    · split
      · rename_i h1 h2
        subst h2
        simp [Memory.sortedFrom, h.1, h.2]
      · rename_i h1 h2
        simp [Memory.sortedFrom, h.1, ih a (by omega) h.2]

/-- A store keeps the canonical form. -/
theorem wf_set (m : List Host.Cell) (k : Nat) (v : Byte) (h : Memory.wf m = true) :
    Memory.wf (Memory.set m k v) = true := by
  cases m with
  | nil => rfl
  | cons c rest =>
    obtain ⟨a, b⟩ := c
    simp only [Memory.wf] at h
    simp only [Memory.set]
    split
    · rename_i h1
      simp [Memory.wf, Memory.sortedFrom, h1, h]
    · split
      · rename_i h1 h2
        subst h2
        simp [Memory.wf, h]
      · rename_i h1 h2
        exact sortedFrom_set rest a k v (by omega) h

/-- A store of several bytes keeps the canonical form. -/
theorem wf_write (m : List Host.Cell) (addr n v : Nat) (h : Memory.wf m = true) :
    Memory.wf (Memory.write m addr n v) = true := by
  induction n generalizing m addr v with
  | zero => exact h
  | succ n ih => exact ih _ _ _ (wf_set m addr _ h)

/-- What a store lists is what was listed and the address stored to. -/
theorem mem_set (m : List Host.Cell) (k : Nat) (v : Byte) (c : Host.Cell) (h : c ∈ Memory.set m k v) :
    c = (k, v) ∨ c ∈ m := by
  induction m with
  | nil => simpa [Memory.set] using h
  | cons d rest ih =>
    obtain ⟨a, b⟩ := d
    simp only [Memory.set] at h
    split at h
    · simpa using h
    · split at h
      · rename_i h1 h2
        rcases List.mem_cons.mp h with h | h
        · exact Or.inl h
        · exact Or.inr (List.mem_cons_of_mem _ h)
      · rcases List.mem_cons.mp h with h | h
        · exact Or.inr (h ▸ List.mem_cons_self)
        · rcases ih h with h | h
          · exact Or.inl h
          · exact Or.inr (List.mem_cons_of_mem _ h)

/-- What a store of n bytes lists is what was listed and addresses of the n bytes. -/
theorem mem_write (m : List Host.Cell) (addr n v : Nat) (c : Host.Cell) (h : c ∈ Memory.write m addr n v) :
    (addr ≤ c.1 ∧ c.1 < addr + n) ∨ c ∈ m := by
  induction n generalizing m addr v with
  | zero => exact Or.inr h
  | succ n ih =>
    rcases ih _ _ _ h with h | h
    · exact Or.inl (by omega)
    · rcases mem_set _ _ _ _ h with h | h
      · subst h; exact Or.inl ⟨Nat.le_refl _, by simp⟩
      · exact Or.inr h

/-- The memory after reset has the canonical form. -/
theorem wf_reset : Memory.wf State.reset.mem = true := rfl

end Sys2Proof.Machine
end

