-- ==== Sys2Proof/Laws/Ops.lean ====
section
/-!
SUPPORT. What each shared operation can do, said once: the frame of a register write, the flags, the loads and
stores. Proofs about an instruction cite these and unfold nothing below them.
-/

namespace Sys2Proof.Machine

open Sys2Proof

/-! Registers. -/

theorem frame_setX (s : State) (rd : Reg) (v : XWord) : Frame s (s.setX rd v).advance [rd] where
  cfg := by simp
  v := by simp
  regs r h := by
    rw [advance_x]
    rcases h with h | h
    · subst h; rfl
    · exact x_setX_other s rd r v (by simpa using h)
  byte a := by simp [State.byte]
  pc := by rw [advance_pcv]; simp [State.pcv]

theorem frame_setX64 (s : State) (rd : Reg) (v : XWord) : Frame s (s.setX64 rd v).advance (dest64 s rd) where
  cfg := by simp
  v := by simp
  regs r h := by
    rw [advance_x]
    rcases h with h | h
    · subst h; rfl
    · unfold dest64 at h
      unfold State.setX64
      cases hx : s.cfg.xlen <;> simp only [hx] at h ⊢
      · by_cases hz : pairLow rd = 0#5
        · rw [setPair_zero _ _ _ hz]
        · simp only [hz, if_false, List.mem_cons, List.not_mem_nil, or_false, not_or] at h
          exact x_setPair_other s rd r v h.1 h.2
      · by_cases hz : rd = 0#5
        · subst hz; rfl
        · simp only [hz, if_false, List.mem_cons, List.not_mem_nil, or_false] at h
          exact x_setX_other s rd r v h
  byte a := by simp [State.byte]
  pc := by rw [advance_pcv]; simp [State.pcv]

/-- The 64-bit operand written reads back (rules R22, R360). -/
theorem x64_setX64 (s : State) (rd : Reg) (v : XWord) (h : dest64 s rd ≠ []) : (s.setX64 rd v).x64 rd = v := by
  unfold dest64 at h
  unfold State.x64
  rw [setX64_cfg]
  unfold State.setX64
  cases hx : s.cfg.xlen <;> simp only [hx] at h ⊢
  · exact pair_setPair_same s rd v (fun hz => h (by simp [hz]))
  · rw [x_setX_same s rd v (fun hz => h (by simp [hz])), hx]; rfl

/-- Two states with the same registers, parameters, memory and pc have the same frame. -/
theorem Frame.of_same {s t u : State} {l : List Reg} (h : Frame s t l) (hc : u.cfg = t.cfg) (hr : u.regs = t.regs)
    (hp : u.pc = t.pc) (hv : u.v = t.v) (hm : u.mem = t.mem) : Frame s u l where
  cfg := hc.trans h.cfg
  v := hv.trans h.v
  regs r hh := (x_congr r hc hr).trans (h.regs r hh)
  byte a := by rw [State.byte, hm]; exact h.byte a
  pc := by rw [State.pcv, hc, hp]; exact h.pc

/-! The flags. -/

/-- What noting a clip does to `OV` and VS while VS does not forbid it (rules R15, R26, R553, R554). -/
theorem flagsClip_noteClip (s t : State) (c : Bool) (hoff : s.vxsatOff = false) (hc : t.cfg = s.cfg) (hv : t.v = s.v)
    (ho : t.ov = s.ov) (h1 : t.vs = s.vs) (h2 : t.vsVs = s.vsVs) :
    FlagsClip s (t.noteClip c).advance (c = true) := by
  obtain ⟨hvs, hvv⟩ : (s.cfg.hasVs && s.vs == .off) = false ∧ (s.virtual && s.vsVs == .off) = false := by
    simpa [State.vxsatOff] using hoff
  have hvirt : t.virtual = s.virtual := by simp [State.virtual, hc, hv]
  have hd : MadeDirty s ({ t with ov := t.ov || c }.markDirty).advance := by
    constructor
    · have : ({ t with ov := t.ov || c } : State).cfg = s.cfg := hc
      show (if t.cfg.hasVs then VState.touched t.vs else t.vs) = _
      rw [hc, h1]
      cases hh : s.cfg.hasVs
      · rfl
      · rw [hh] at hvs
        cases hs : s.vs <;> simp_all [VState.touched]
    · show (if t.virtual then VState.touched t.vsVs else t.vsVs) = _
      rw [hvirt, h2]
      cases hh : s.virtual
      · rfl
      · rw [hh] at hvv
        cases hs : s.vsVs <;> simp_all [VState.touched]
  refine ⟨?_, ?_, ?_⟩
  · simp [ho]
  · intro h
    have : t.cfg.vsDirty = .static ∨ c = true := by rwa [hc]
    unfold State.noteClip
    dsimp only
    rw [if_pos this]
    exact hd
  · intro hdyn hcl
    have : ¬(t.cfg.vsDirty = .static ∨ c = true) := by
      rw [hc, hdyn]; simp [hcl]
    unfold State.noteClip
    dsimp only
    rw [if_neg this]
    exact ⟨h1, h2⟩

/-- What a write of `vxsat` does to VS while VS does not forbid it (rules R553, R554). -/
theorem madeDirty_setOv (s t : State) (b : Bool) (hoff : s.vxsatOff = false) (hc : t.cfg = s.cfg) (hv : t.v = s.v)
    (h1 : t.vs = s.vs) (h2 : t.vsVs = s.vsVs) : MadeDirty s (t.setOv b).advance := by
  obtain ⟨hvs, hvv⟩ : (s.cfg.hasVs && s.vs == .off) = false ∧ (s.virtual && s.vsVs == .off) = false := by
    simpa [State.vxsatOff] using hoff
  have hvirt : t.virtual = s.virtual := by simp [State.virtual, hc, hv]
  constructor
  · rw [advance_vs, setOv_vs, hc, h1]
    cases hh : s.cfg.hasVs
    · rfl
    · rw [hh] at hvs
      cases hs : s.vs <;> simp_all [VState.touched]
  · rw [advance_vsVs, setOv_vsVs, hvirt, h2]
    cases hh : s.virtual
    · rfl
    · rw [hh] at hvv
      cases hs : s.vsVs <;> simp_all [VState.touched]

/-- While VS is Off an access to `vxsat` is an illegal instruction (rules R552, R554). -/
theorem vxsatAccess_off (s : State) (r : Result) (h : s.vxsatOff = true) :
    s.vxsatAccess r = .fault (.illegalInstruction s.pcv s.currentWord) := by
  simp [State.vxsatAccess, h, State.illegal, raise]

/-- While VS does not forbid it, an access to `vxsat` goes on (rules R552, R554). -/
theorem vxsatAccess_on (s : State) (r : Result) (h : s.vxsatOff = false) : s.vxsatAccess r = r := by
  simp [State.vxsatAccess, h]

/-! Completing with a result. -/

/-- `State.writeBits`: completes, writes `x[rd]`, and leaves the flags. -/
theorem writeBits_effect (s : State) (rd : Reg) (v : XWord) :
    ∃ t, s.writeBits rd v = .next t ∧ Frame s t [rd] ∧ FlagsKept s t ∧
      (rd ≠ 0#5 → t.x rd = wrapX s.cfg.xlen v) :=
  ⟨_, rfl, frame_setX s rd v, ⟨by simp, by simp, by simp⟩, fun h => by rw [advance_x, x_setX_same s rd v h]⟩

/-- `State.writeLanes`: completes, writes the lanes of `x[rd]`, and leaves the flags. -/
theorem writeLanes_effect (s : State) (rd : Reg) (w : Nat) (f : Nat → Int) :
    ∃ t, s.writeLanes rd w f = .next t ∧ Frame s t [rd] ∧ FlagsKept s t ∧
      (rd ≠ 0#5 → ∀ j, j < s.lanes w → lane w (t.x rd) j = trunc w (f j)) :=
  ⟨_, rfl, frame_setX s rd _, ⟨by simp, by simp, by simp⟩, fun h j hj => by
    rw [advance_x]; exact lane_setX_lanesOf s rd w f h j hj⟩

/-- `State.write64`: completes, writes `op64(rd)`, and leaves the flags. -/
theorem write64_effect (s : State) (rd : Reg) (k : Int) :
    ∃ t, s.write64 rd k = .next t ∧ Frame s t (dest64 s rd) ∧ FlagsKept s t ∧
      (dest64 s rd ≠ [] → t.x64 rd = trunc 64 k) :=
  ⟨_, rfl, frame_setX64 s rd _, ⟨by simp, by simp, by simp⟩, fun h => by
    rw [advance_x64]; exact x64_setX64 s rd _ h⟩

/-- `State.write64Lanes`: completes, writes the lanes of `op64(rd)`, and leaves the flags. -/
theorem write64Lanes_effect (s : State) (rd : Reg) (w : Nat) (f : Nat → Int) :
    ∃ t, s.write64Lanes rd w f = .next t ∧ Frame s t (dest64 s rd) ∧ FlagsKept s t ∧
      (dest64 s rd ≠ [] → ∀ j, j < 64 / w → lane w (t.x64 rd) j = trunc w (f j)) :=
  ⟨_, rfl, frame_setX64 s rd _, ⟨by simp, by simp, by simp⟩, fun h j hj => by
    rw [advance_x64, x64_setX64 s rd _ h]
    exact lane_packLanes w (64 / w) _ (Nat.mul_div_le 64 w) j hj⟩

/-- `State.clipped` on a register write: completes, writes `x[rd]`, and sets `OV` on a clip. -/
theorem clipped_setX_effect (s : State) (rd : Reg) (v : XWord) (c : Bool) (hoff : s.vxsatOff = false) :
    ∃ t, s.clipped (s.setX rd v) c = .next t ∧ Frame s t [rd] ∧ FlagsClip s t (c = true) ∧
      (rd ≠ 0#5 → t.x rd = wrapX s.cfg.xlen v) := by
  refine ⟨((s.setX rd v).noteClip c).advance, vxsatAccess_on _ _ hoff, ?_, ?_, ?_⟩
  · exact (frame_setX s rd v).of_same (by simp) (by simp) (by simp) (by simp) (by simp)
  · exact flagsClip_noteClip s _ c hoff (by simp) (by simp) (by simp) (by simp) (by simp)
  · intro h
    rw [advance_x, x_congr (s := s.setX rd v) rd (by simp) (by simp), x_setX_same s rd v h]

/-- `State.clipped` on a 64-bit operand: completes, writes `op64(rd)`, and sets `OV` on a clip. -/
theorem clipped_setX64_effect (s : State) (rd : Reg) (v : XWord) (c : Bool) (hoff : s.vxsatOff = false) :
    ∃ t, s.clipped (s.setX64 rd v) c = .next t ∧ Frame s t (dest64 s rd) ∧ FlagsClip s t (c = true) ∧
      (dest64 s rd ≠ [] → t.x64 rd = v) := by
  refine ⟨((s.setX64 rd v).noteClip c).advance, vxsatAccess_on _ _ hoff, ?_, ?_, ?_⟩
  · exact (frame_setX64 s rd v).of_same (by simp) (by simp) (by simp) (by simp) (by simp)
  · exact flagsClip_noteClip s _ c hoff (by simp) (by simp) (by simp) (by simp) (by simp)
  · intro h
    have hx : ∀ r, ((s.setX64 rd v).noteClip c).x r = (s.setX64 rd v).x r := fun r => x_congr r (by simp) (by simp)
    have h64 : ((s.setX64 rd v).noteClip c).x64 rd = (s.setX64 rd v).x64 rd := by
      simp [State.x64, State.pair, hx]
    rw [advance_x64, h64, x64_setX64 s rd v h]

/-- `State.clipLanes`: completes, writes the lanes of `x[rd]`, and sets `OV` when a lane clips. -/
theorem clipLanes_effect (s : State) (rd : Reg) (w : Nat) (f : Nat → Clipped) (hoff : s.vxsatOff = false) :
    ∃ t, s.clipLanes rd w f = .next t ∧ Frame s t [rd] ∧
      FlagsClip s t (∃ j, j < s.lanes w ∧ (f j).clip = true) ∧
      (rd ≠ 0#5 → ∀ j, j < s.lanes w → lane w (t.x rd) j = trunc w (f j).val) := by
  obtain ⟨t, he, hf, hc, hx⟩ :=
    clipped_setX_effect s rd (s.lanesOf w fun j => (f j).val) (anyClip (s.lanes w) f) hoff
  refine ⟨t, he, hf, ?_, fun h j hj => ?_⟩
  · rwa [propext (anyClip_iff (s.lanes w) f)] at hc
  · rw [hx h, ← x_setX_same s rd _ h]
    exact lane_setX_lanesOf s rd w (fun j => (f j).val) h j hj

/-! Loads, stores and jumps. -/

/-- `State.load`: on a multiple of the size, inside the region, with every byte loaded or written, it goes on with the
value (rules R41, R44, R46). -/
theorem load_effect (s : State) (addr : XWord) (n v : Nat) (andThen : Nat → Result) (ha : aligned addr n = true)
    (hr : s.inRegion addr.toNat n = true) (hv : Memory.read s.mem addr.toNat n = some v) :
    s.load addr n andThen = andThen v := by
  simp [State.load, ha, hr, hv]

/-- `State.store`: on a multiple of the size, inside the region, it completes with the bytes stored (rules R41, R44,
R46). -/
theorem store_effect (s : State) (addr : XWord) (n v : Nat) (ha : aligned addr n = true)
    (hr : s.inRegion addr.toNat n = true) :
    s.store addr n v = .next { s with mem := Memory.write s.mem addr.toNat n v }.advance := by
  simp [State.store, ha, hr]

/-- A store that answers a next state was aligned and in the region. -/
theorem store_next {s t : State} {addr : XWord} {n v : Nat} (h : s.store addr n v = .next t) :
    aligned addr n = true ∧ s.inRegion addr.toNat n = true ∧
      t = { s with mem := Memory.write s.mem addr.toNat n v }.advance := by
  unfold State.store at h
  split at h
  · cases h
  · split at h
    · cases h
    · rename_i h1 h2
      injection h with h
      exact ⟨by simpa using h1, by simpa using h2, h.symm⟩

/-- A load that answers a next state was aligned, in the region, and went on with the bytes it read. -/
theorem load_next {s t : State} {addr : XWord} {n : Nat} {andThen : Nat → Result}
    (h : s.load addr n andThen = .next t) :
    aligned addr n = true ∧ s.inRegion addr.toNat n = true ∧
      ∃ v, Memory.read s.mem addr.toNat n = some v ∧ andThen v = .next t := by
  unfold State.load at h
  split at h
  · cases h
  · split at h
    · cases h
    · rename_i h1 h2
      split at h
      · rename_i v hv
        exact ⟨by simpa using h1, by simpa using h2, v, hv, h⟩
      · cases h

/-- A jump that answers a next state went to a multiple of 4. -/
theorem jump_next {s t : State} {target : XWord} (h : s.jump target = .next t) :
    aligned target 4 = true ∧ t = { s with pc := target } := by
  unfold State.jump at h
  split at h
  · rename_i ha
    injection h with h
    exact ⟨ha, h.symm⟩
  · cases h

end Sys2Proof.Machine
end

