-- ==== Sys2Proof/Laws/Arith.lean ====
section
/-!
SUPPORT. The integer primitives of rules R14 and R16 and the counts of leading bits: what each computes, in plain
arithmetic.
-/

namespace Sys2Proof.Machine

theorem toNat_trunc (w : Nat) (k : Int) : ((trunc w k).toNat : Int) = k % 2 ^ w := by
  have h : (0 : Int) ≤ k % 2 ^ w := Int.emod_nonneg _ (by positivity)
  simp [trunc, BitVec.toNat_ofInt, Int.toNat_of_nonneg h]

/-- A value that fits is kept, read as unsigned. -/
theorem toNat_trunc_of (w : Nat) (k : Int) (h0 : 0 ≤ k) (h1 : k < 2 ^ w) : ((trunc w k).toNat : Int) = k := by
  rw [toNat_trunc, Int.emod_eq_of_lt h0 h1]

theorem toInt_trunc_bmod (w : Nat) (k : Int) : (trunc w k).toInt = k.bmod (2 ^ w) := by
  simp [trunc, BitVec.toInt_ofInt]

/-- A value that fits is kept, read as signed. -/
theorem toInt_trunc_of (w : Nat) (k : Int) (h0 : -2 ^ w ≤ k) (h1 : k < 2 ^ w) : (trunc (w + 1) k).toInt = k := by
  rw [toInt_trunc_bmod]
  have e : (2 : Int) ^ (w + 1) = 2 * 2 ^ w := by ring
  apply Int.bmod_eq_of_le_mul_two <;> push_cast <;> omega

theorem ul_nonneg (s : State) (w : Nat) (r : Reg) (j : Nat) : 0 ≤ s.ul w r j := Int.natCast_nonneg _

theorem ul_lt (s : State) (w : Nat) (r : Reg) (j : Nat) : s.ul w r j < 2 ^ w := by
  have := (lane w (s.x r) j).isLt
  unfold State.ul uval
  exact_mod_cast this

theorem sl_ge (s : State) (w : Nat) (r : Reg) (j : Nat) : -2 ^ w ≤ s.sl (w + 1) r j := by
  have := BitVec.le_toInt (lane (w + 1) (s.x r) j)
  simpa [State.sl, sval] using this

theorem sl_lt (s : State) (w : Nat) (r : Reg) (j : Nat) : s.sl (w + 1) r j < 2 ^ w := by
  have := BitVec.toInt_lt (x := lane (w + 1) (s.x r) j)
  simpa [State.sl, sval] using this

theorem clamp_ge (lo hi k : Int) (h : lo ≤ hi) : lo ≤ clamp lo hi k := by
  unfold clamp; split <;> [omega; split <;> omega]

theorem clamp_le (lo hi k : Int) (h : lo ≤ hi) : clamp lo hi k ≤ hi := by
  unfold clamp; split <;> [omega; split <;> omega]

theorem clamp_of_mem (lo hi k : Int) (h0 : lo ≤ k) (h1 : k ≤ hi) : clamp lo hi k = k := by
  unfold clamp; split <;> [omega; split <;> omega]

/-- `satq` clips to the signed range (rule R14). -/
theorem satq_val (n : Nat) (k : Int) : (satq n k).val = clamp (-2 ^ n) (2 ^ n - 1) k := by
  have : (0 : Int) < 2 ^ n := by positivity
  unfold satq clamp
  dsimp only
  split <;> [skip; split] <;> omega

theorem satq_clip (n : Nat) (k : Int) : (satq n k).clip = true ↔ outside (-2 ^ n) (2 ^ n - 1) k := by
  simp [satq, outside]

/-- `satu` clips to the unsigned range (rule R14). -/
theorem satu_val (m : Nat) (k : Int) : (satu m k).val = clamp 0 (2 ^ m - 1) k := by
  have : (0 : Int) < 2 ^ m := by positivity
  unfold satu clamp
  dsimp only
  split <;> [skip; split] <;> omega

theorem satu_clip (m : Nat) (k : Int) : (satu m k).clip = true ↔ outside 0 (2 ^ m - 1) k := by
  simp [satu, outside]

/-- The rounding shifts divide and round to nearest, halves upwards (rules R14, R16). -/
theorem rnd_eq (k : Int) (n : Nat) : rnd k n = roundShift k n := by
  unfold rnd roundShift
  cases n with
  | zero => simp
  | succ n =>
    have h2 : (0 : Int) < 2 ^ n := by positivity
    have e : (2 : Int) ^ (n + 1) = 2 ^ n * 2 := by ring
    have e2 : (2 : Int) ^ (n + 1) / 2 = 2 ^ n := by omega
    simp only [Nat.add_sub_cancel, asr, Nat.succ_ne_zero, if_false, e2, pow_one]
    rw [e, ← Int.ediv_ediv_of_nonneg (le_of_lt h2), Int.add_ediv_of_dvd_right (dvd_refl _),
      Int.ediv_self (ne_of_gt h2)]

/-- A shift right of a value of n + 1 bits stays in range. -/
theorem ediv_ge (lo k d : Int) (hd : 0 < d) (hlo : lo ≤ 0) (h : lo ≤ k) : lo ≤ k / d := by
  rw [Int.le_ediv_iff_mul_le hd]
  nlinarith

theorem ediv_lt (hi k d : Int) (hd : 0 < d) (hhi : 0 < hi) (h : k < hi) : k / d < hi := by
  rw [Int.ediv_lt_iff_lt_mul hd]
  nlinarith

theorem roundShift_ge (lo k : Int) (n : Nat) (hlo : lo ≤ 0) (h : lo ≤ k) : lo ≤ roundShift k n := by
  unfold roundShift
  have h2 : (0 : Int) < 2 ^ n := by positivity
  have h3 : (0 : Int) ≤ 2 ^ n / 2 := Int.ediv_nonneg (le_of_lt h2) (by norm_num)
  exact ediv_ge lo _ _ h2 hlo (by omega)

theorem roundShift_lt (hi k : Int) (n : Nat) (hhi : 1 < hi) (h : k < hi) : roundShift k n < hi := by
  unfold roundShift
  have h2 : (0 : Int) < 2 ^ n := by positivity
  rw [Int.ediv_lt_iff_lt_mul h2]
  cases n with
  | zero => simpa using h
  | succ n =>
    have e : (2 : Int) ^ (n + 1) = 2 * 2 ^ n := by ring
    have h4 : (0 : Int) < 2 ^ n := by positivity
    have e2 : (2 : Int) ^ (n + 1) / 2 = 2 ^ n := by omega
    rw [e2, e]
    nlinarith

/-- The shift of the KSLRA instructions: a right shift, or a saturating left shift (rules R195, R209). -/
theorem shiftLR_spec (w : Nat) (f g : Int → Nat → Int) (k n : Int) (hfg : ∀ k n, f k n = g k n)
    (hg : ∀ n, (-2 ^ w ≤ k → -2 ^ w ≤ g k n) ∧ (k < 2 ^ w → g k n < 2 ^ w)) (h0 : -2 ^ w ≤ k) (h1 : k < 2 ^ w) :
    ((shiftLR (w + 1) f k n).clip = true ↔
      outside (-2 ^ w) (2 ^ w - 1) (if n < 0 then g k (min (-n).toNat w) else k * 2 ^ n.toNat)) ∧
    (shiftLR (w + 1) f k n).val =
      clamp (-2 ^ w) (2 ^ w - 1) (if n < 0 then g k (min (-n).toNat w) else k * 2 ^ n.toNat) := by
  have hp : (0 : Int) < 2 ^ w := by positivity
  by_cases hn : n < 0
  · have a := (hg (min (-n).toNat w)).1 h0
    have b := (hg (min (-n).toNat w)).2 h1
    have e : shiftLR (w + 1) f k n = exact (g k (min (-n).toNat w)) := by
      simp [shiftLR, hn, hfg]
    rw [e, if_pos hn]
    refine ⟨?_, ?_⟩
    · simp only [exact, Bool.false_eq_true, outside, false_iff]; omega
    · rw [clamp_of_mem _ _ _ a (by omega)]; rfl
  · have e : shiftLR (w + 1) f k n = satq w (k * 2 ^ n.toNat) := by
      simp [shiftLR, hn, shl]
    rw [e, if_neg hn]
    exact ⟨satq_clip w _, satq_val w _⟩

/-- The product of two signed numbers of the same width. -/
theorem mul_bounds (A a b : Int) (hA : 0 < A) (ha0 : -A ≤ a) (ha1 : a < A) (hb0 : -A ≤ b) (hb1 : b < A) :
    -(A * (A - 1)) ≤ a * b ∧ a * b ≤ A * A := by
  constructor
  · rcases le_or_gt 0 a with h | h <;> rcases le_or_gt 0 b with h' | h' <;> nlinarith
  · rcases le_or_gt 0 a with h | h <;> rcases le_or_gt 0 b with h' | h' <;> nlinarith

/-- The product of two signed numbers of different widths. -/
theorem mul_bounds_mixed (A B a b : Int) (ha0 : -A ≤ a) (ha1 : a < A) (hb0 : -B ≤ b) (hb1 : b < B) :
    -(A * B) ≤ a * b ∧ a * b ≤ A * B := by
  constructor
  · rcases le_or_gt 0 a with h | h <;> rcases le_or_gt 0 b with h' | h' <;> nlinarith
  · rcases le_or_gt 0 a with h | h <;> rcases le_or_gt 0 b with h' | h' <;> nlinarith
theorem half_range (s : State) (r : Reg) (j : Nat) :
    (-2 ^ 15 ≤ s.bot r j ∧ s.bot r j < 2 ^ 15) ∧ (-2 ^ 15 ≤ s.top r j ∧ s.top r j < 2 ^ 15) :=
  ⟨⟨sl_ge s 15 r _, sl_lt s 15 r _⟩, ⟨sl_ge s 15 r _, sl_lt s 15 r _⟩⟩

theorem word_range (s : State) (r : Reg) (j : Nat) : -2 ^ 31 ≤ s.sl 32 r j ∧ s.sl 32 r j < 2 ^ 31 :=
  ⟨sl_ge s 31 r _, sl_lt s 31 r _⟩

/-- A clipped value added to an accumulator and clipped again: the value, and when either step clips (rule R584). -/
theorem twice_clipped (n : Nat) (m acc : Int) :
    (((satq n m).andThen fun t => satq n (acc + t)).clip = true ↔
      outside (-2 ^ n) (2 ^ n - 1) m ∨ outside (-2 ^ n) (2 ^ n - 1) (acc + clamp (-2 ^ n) (2 ^ n - 1) m)) ∧
    ((satq n m).andThen fun t => satq n (acc + t)).val =
      clamp (-2 ^ n) (2 ^ n - 1) (acc + clamp (-2 ^ n) (2 ^ n - 1) m) ∧
    -2 ^ n ≤ clamp (-2 ^ n) (2 ^ n - 1) (acc + clamp (-2 ^ n) (2 ^ n - 1) m) ∧
    clamp (-2 ^ n) (2 ^ n - 1) (acc + clamp (-2 ^ n) (2 ^ n - 1) m) < 2 ^ n := by
  have hp : (0 : Int) < 2 ^ n := by positivity
  have h1 := clamp_ge (-2 ^ n) (2 ^ n - 1) (acc + clamp (-2 ^ n) (2 ^ n - 1) m) (by omega)
  have h2 := clamp_le (-2 ^ n) (2 ^ n - 1) (acc + clamp (-2 ^ n) (2 ^ n - 1) m) (by omega)
  refine ⟨?_, ?_, h1, by omega⟩
  · simp only [Clipped.andThen, Bool.or_eq_true, satq_clip, satq_val]
  · simp only [Clipped.andThen, satq_val]

/-- The signed and the unsigned value of 64 bits are the same modulo 2^64. -/
theorem sval_add_emod (v : XWord) (k : Int) : (sval v + k) % 2 ^ 64 = (uval v + k) % 2 ^ 64 := by
  unfold sval uval
  rw [BitVec.toInt_eq_toNat_cond]
  split
  · rfl
  · push_cast
    omega

theorem sl_emod_add (s : State) (r : Reg) (j : Nat) (k : Int) :
    (s.sl 32 r j + k) % 2 ^ 32 = (s.ul 32 r j + k) % 2 ^ 32 := by
  unfold State.sl State.ul sval uval
  rw [BitVec.toInt_eq_toNat_cond]
  split
  · rfl
  · push_cast
    omega

theorem two_pow_xlen_dvd (s : State) : (2 : Int) ^ s.xlen ∣ 2 ^ 64 := pow_dvd_pow 2 (bits_le s.cfg.xlen)

/-- A shift amount is the register modulo a power of two (rule R69). -/
theorem low_eq (s : State) (k : Nat) (r : Reg) : s.low k r = (s.x r).toNat % 2 ^ k := by
  simp [State.low, BitVec.toNat_setWidth]

/-- The signed amount of the KSLRA instructions (rule R69). -/
theorem slow_eq (s : State) (k : Nat) (r : Reg) : s.slow k r = ((s.x r).toNat : Int).bmod (2 ^ k) := by
  simp only [State.slow, sval, BitVec.toInt_eq_toNat_bmod, BitVec.toNat_setWidth]
  push_cast
  exact_mod_cast Int.emod_bmod ((s.x r).toNat : Int) (2 ^ k)

/-- The amount of the XLEN-wide shifts and reversals (rules R436, R437). -/
theorem amountX_eq (s : State) (r : Reg) : s.amountX r = (s.x r).toNat % s.xlen := by
  unfold State.amountX State.xlen
  cases s.cfg.xlen <;> simp [low_eq, Xlen.bits]

/-- The sum over the words of a GPR. -/
theorem sumOver_eq (n : Nat) (f : Nat → Int) : sumOver n f = ((List.range n).map f).sum := by
  induction n with
  | zero => rfl
  | succ n ih => simp [sumOver, ih, List.range_succ]

theorem iabs_eq (k : Int) : iabs k = |k| := by
  unfold iabs
  split
  · rw [abs_of_neg ‹_›]
  · rw [abs_of_nonneg (by omega)]

/-- The length of the run of leading ones of a list: all before it are ones, and the bit after it is none. -/
theorem leadingRun_spec (l : List Bool) :
    leadingRun l ≤ l.length ∧ (∀ i, i < leadingRun l → l.getD i false = true) ∧
      (leadingRun l < l.length → l.getD (leadingRun l) false = false) := by
  induction l with
  | nil => simp [leadingRun]
  | cons b rest ih =>
    cases b with
    | false => simp [leadingRun]
    | true =>
      obtain ⟨h1, h2, h3⟩ := ih
      refine ⟨by simp [leadingRun, h1], ?_, ?_⟩
      · intro i hi
        cases i with
        | zero => rfl
        | succ i =>
          simp only [leadingRun] at hi
          simpa using h2 i (by omega)
      · intro h
        simp only [leadingRun, List.length_cons] at h ⊢
        simpa using h3 (by omega)

theorem msbFirst_length {w : Nat} (v : BitVec w) : (msbFirst v).length = w := by simp [msbFirst]

theorem msbFirst_getD {w : Nat} (v : BitVec w) (i : Nat) : (msbFirst v).getD i false = v.getMsbD i := by
  by_cases h : i < w
  · simp [msbFirst, List.getD_eq_getElem?_getD, h]
  · have : v.getMsbD i = false := by simp [BitVec.getMsbD, h]
    simp [msbFirst, List.getD_eq_getElem?_getD, h, this]

/-- `clzOf` counts the zeros above the highest one (rules R101, R243, R258, R343). -/
theorem clzOf_spec {w : Nat} (v : BitVec w) : ∃ n : Nat, clzOf v = n ∧ LeadingZeros v n := by
  refine ⟨_, rfl, ?_⟩
  obtain ⟨h1, h2, h3⟩ := leadingRun_spec (msbFirst (~~~v))
  rw [msbFirst_length] at h1 h3
  refine ⟨h1, fun i hi => ?_, fun h => ?_⟩
  · have := h2 i hi
    rw [msbFirst_getD] at this
    have hw : i < w := by omega
    simpa [BitVec.getMsbD_not, hw] using this
  · have := h3 h
    rw [msbFirst_getD] at this
    simpa [BitVec.getMsbD_not, h] using this

/-- `clrsOf` counts the bits below the sign that equal it (rules R242, R257, R344). -/
theorem clrsOf_spec {w : Nat} (v : BitVec w) (hw : 0 < w) : ∃ n : Nat, clrsOf v = n ∧ RedundantSigns v n := by
  refine ⟨_, rfl, ?_⟩
  set u : BitVec w := if v.msb then v else ~~~v with hu
  have hlen : (msbFirst u).tail.length = w - 1 := by simp [msbFirst_length]
  have hget : ∀ i, (msbFirst u).tail.getD i false = u.getMsbD (i + 1) := fun i => by
    rw [← msbFirst_getD u (i + 1)]
    simp [List.getD_eq_getElem?_getD, List.getElem?_tail]
  have hbit : ∀ i, i < w → u.getMsbD i = (v.getMsbD i == v.msb) := fun i hi => by
    cases hm : v.msb <;> simp [hu, hm, BitVec.getMsbD_not, hi]
  obtain ⟨h1, h2, h3⟩ := leadingRun_spec (msbFirst u).tail
  rw [hlen] at h1 h3
  refine ⟨by omega, fun i hi => ?_, fun h => ?_⟩
  · have := h2 i hi
    rw [hget, hbit _ (by omega)] at this
    simpa using this
  · have := h3 (by omega)
    rw [hget, hbit _ h] at this
    cases hv : v.msb <;> simp_all

end Sys2Proof.Machine
end

