-- ==== Sys2Proof/Laws/Encoding.lean ====
section
/-!
SUPPORT. The six fields of an encoded word (rule R61): each is read back as it was written, and a mask acts on each
field by itself.
-/

namespace Sys2Proof

theorem extract_high {n m : Nat} (a : BitVec n) (b : BitVec m) : (a ++ b).extractLsb' m n = a := by
  apply BitVec.eq_of_getLsbD_eq
  intro k hk
  rw [BitVec.getLsbD_extractLsb', BitVec.getLsbD_append]
  simp [hk]

theorem extract_below {n m : Nat} (a : BitVec n) (b : BitVec m) (lo len : Nat) (h : lo + len ≤ m) :
    (a ++ b).extractLsb' lo len = b.extractLsb' lo len := by
  apply BitVec.eq_of_getLsbD_eq
  intro k hk
  rw [BitVec.getLsbD_extractLsb', BitVec.getLsbD_append, BitVec.getLsbD_extractLsb']
  have : lo + k < m := by omega
  simp [this]

theorem extract_above {n m : Nat} (a : BitVec n) (b : BitVec m) (lo len : Nat) :
    (a ++ b).extractLsb' (m + lo) len = a.extractLsb' lo len := by
  apply BitVec.eq_of_getLsbD_eq
  intro k hk
  rw [BitVec.getLsbD_extractLsb', BitVec.getLsbD_append, BitVec.getLsbD_extractLsb']
  have h1 : ¬m + lo + k < m := by omega
  have h2 : m + lo + k - m = lo + k := by omega
  simp [h1, h2]

/-- A value is its high part and its low part put together. -/
theorem append_extract {n m : Nat} (v : BitVec (n + m)) : v.extractLsb' m n ++ v.extractLsb' 0 m = v := by
  apply BitVec.eq_of_getLsbD_eq
  intro k hk
  simp only [BitVec.getLsbD_append, BitVec.getLsbD_extractLsb']
  by_cases h : k < m
  · simp [h]
  · have : k - m < n := by omega
    simp [h, this, show m + (k - m) = k by omega]

@[simp] theorem opcodeOf_encR (f7 rs2 rs1 f3 rd opc) : opcodeOf (encR f7 rs2 rs1 f3 rd opc) = opc := by
  show (f7 ++ rs2 ++ rs1 ++ f3 ++ rd ++ opc).extractLsb' 0 7 = opc
  rw [extract_below _ opc 0 7 (by omega)]
  simp

@[simp] theorem rdOf_encR (f7 rs2 rs1 f3 rd opc) : rdOf (encR f7 rs2 rs1 f3 rd opc) = rd := by
  show (f7 ++ rs2 ++ rs1 ++ f3 ++ rd ++ opc).extractLsb' (7 + 0) 5 = rd
  rw [extract_above, extract_below _ rd 0 5 (by omega)]
  simp

@[simp] theorem funct3Of_encR (f7 rs2 rs1 f3 rd opc) : funct3Of (encR f7 rs2 rs1 f3 rd opc) = f3 := by
  show (f7 ++ rs2 ++ rs1 ++ f3 ++ rd ++ opc).extractLsb' (7 + (5 + 0)) 3 = f3
  rw [extract_above, extract_above, extract_below _ f3 0 3 (by omega)]
  simp

@[simp] theorem rs1Of_encR (f7 rs2 rs1 f3 rd opc) : rs1Of (encR f7 rs2 rs1 f3 rd opc) = rs1 := by
  show (f7 ++ rs2 ++ rs1 ++ f3 ++ rd ++ opc).extractLsb' (7 + (5 + (3 + 0))) 5 = rs1
  rw [extract_above, extract_above, extract_above, extract_below _ rs1 0 5 (by omega)]
  simp

@[simp] theorem rs2Of_encR (f7 rs2 rs1 f3 rd opc) : rs2Of (encR f7 rs2 rs1 f3 rd opc) = rs2 := by
  show (f7 ++ rs2 ++ rs1 ++ f3 ++ rd ++ opc).extractLsb' (7 + (5 + (3 + (5 + 0)))) 5 = rs2
  rw [extract_above, extract_above, extract_above, extract_above, extract_below _ rs2 0 5 (by omega)]
  simp

@[simp] theorem funct7Of_encR (f7 rs2 rs1 f3 rd opc) : funct7Of (encR f7 rs2 rs1 f3 rd opc) = f7 := by
  show (f7 ++ rs2 ++ rs1 ++ f3 ++ rd ++ opc).extractLsb' (7 + (5 + (3 + (5 + (5 + 0))))) 7 = f7
  rw [extract_above, extract_above, extract_above, extract_above, extract_above]
  simp

/-! The other fields are parts of these six (rules R63, R66, R69). -/

theorem imm5Of_eq (w : Word) : imm5Of w = rs2Of w := rfl

theorem imm4Of_eq (w : Word) : imm4Of w = (rs2Of w).extractLsb' 0 4 := by
  unfold imm4Of rs2Of; ext k hk; simp; omega

theorem imm3Of_eq (w : Word) : imm3Of w = (rs2Of w).extractLsb' 0 3 := by
  unfold imm3Of rs2Of; ext k hk; simp; omega

theorem imm2Of_eq (w : Word) : imm2Of w = (rs2Of w).extractLsb' 0 2 := by
  unfold imm2Of rs2Of; ext k hk; simp; omega

theorem imm6Of_eq (w : Word) : imm6Of w = (funct7Of w).extractLsb' 0 1 ++ rs2Of w := by
  unfold imm6Of funct7Of rs2Of
  apply BitVec.eq_of_getLsbD_eq
  intro k hk
  simp only [BitVec.getLsbD_append, BitVec.getLsbD_extractLsb']
  by_cases h : k < 5
  · simp [h, hk]
  · have h1 : k - 5 < 1 := by omega
    have h2 : 25 + (k - 5) = 20 + k := by omega
    have h3 : k - 5 < 7 := by omega
    simp [h, hk, h1, h2, h3]

theorem rs3Of_eq (w : Word) : rs3Of w = (funct7Of w).extractLsb' 2 5 := by
  unfold rs3Of funct7Of
  apply BitVec.eq_of_getLsbD_eq
  intro k hk
  have : 2 + k < 7 := by omega
  simp [hk, this, show 25 + (2 + k) = 27 + k by omega]

theorem immIOf_eq (w : Word) : immIOf w = funct7Of w ++ rs2Of w := by
  unfold immIOf funct7Of rs2Of
  apply BitVec.eq_of_getLsbD_eq
  intro k hk
  simp only [BitVec.getLsbD_append, BitVec.getLsbD_extractLsb']
  by_cases h : k < 5
  · simp [h, hk]
  · have h1 : k - 5 < 7 := by omega
    have h2 : 25 + (k - 5) = 20 + k := by omega
    simp [h, hk, h1, h2]

theorem immSOf_eq (w : Word) : immSOf w = funct7Of w ++ rdOf w := rfl

theorem immUOf_eq (w : Word) : immUOf w = funct7Of w ++ rs2Of w ++ rs1Of w ++ funct3Of w := by
  unfold immUOf funct7Of rs2Of rs1Of funct3Of
  apply BitVec.eq_of_getLsbD_eq
  intro k hk
  simp only [BitVec.getLsbD_append, BitVec.getLsbD_extractLsb']
  by_cases h0 : k < 3
  · simp [h0, hk]
  by_cases h1 : k - 3 < 5
  · simp [h0, hk, h1, show 15 + (k - 3) = 12 + k by omega]
  by_cases h2 : k - 3 - 5 < 5
  · simp [h0, hk, h1, h2, show 20 + (k - 3 - 5) = 12 + k by omega]
  · have h3 : k - 3 - 5 - 5 < 7 := by omega
    simp [h0, hk, h1, h2, h3, show 25 + (k - 3 - 5 - 5) = 12 + k by omega]

theorem offsetOf_eq (w : Word) :
    offsetOf w = (funct7Of w).extractLsb' 6 1 ++ (rdOf w).extractLsb' 0 1 ++ (funct7Of w).extractLsb' 0 6 ++
      (rdOf w).extractLsb' 1 4 ++ 0#1 := by
  have h1 : w.extractLsb' 31 1 = (funct7Of w).extractLsb' 6 1 := by
    unfold funct7Of; ext k hk; simp [show 6 + k < 7 by omega, show 25 + (6 + k) = 31 + k by omega]
  have h2 : w.extractLsb' 7 1 = (rdOf w).extractLsb' 0 1 := by
    unfold rdOf; ext k hk; simp [show k < 5 by omega]
  have h3 : w.extractLsb' 25 6 = (funct7Of w).extractLsb' 0 6 := by
    unfold funct7Of; ext k hk; simp [show k < 7 by omega]
  have h4 : w.extractLsb' 8 4 = (rdOf w).extractLsb' 1 4 := by
    unfold rdOf; ext k hk; simp [show 1 + k < 5 by omega, show 7 + (1 + k) = 8 + k by omega]
  rw [offsetOf, h1, h2, h3, h4]

/-- A word is the encoding of its six fields (rule R61). -/
theorem encR_fields (w : Word) :
    encR (funct7Of w) (rs2Of w) (rs1Of w) (funct3Of w) (rdOf w) (opcodeOf w) = w := by
  apply BitVec.eq_of_getLsbD_eq
  intro k hk
  simp only [encR, funct7Of, rs2Of, rs1Of, funct3Of, rdOf, opcodeOf, BitVec.getLsbD_append,
    BitVec.getLsbD_extractLsb']
  by_cases h0 : k < 7
  · simp [h0]
  by_cases h1 : k - 7 < 5
  · have : 7 + (k - 7) = k := by omega
    simp [h0, h1, this]
  by_cases h2 : k - 7 - 5 < 3
  · have : 12 + (k - 7 - 5) = k := by omega
    simp [h0, h1, h2, this]
  by_cases h3 : k - 7 - 5 - 3 < 5
  · have : 15 + (k - 7 - 5 - 3) = k := by omega
    simp [h0, h1, h2, h3, this]
  by_cases h4 : k - 7 - 5 - 3 - 5 < 5
  · have : 20 + (k - 7 - 5 - 3 - 5) = k := by omega
    simp [h0, h1, h2, h3, h4, this]
  · have h5 : k - 7 - 5 - 3 - 5 - 5 < 7 := by omega
    have : 25 + (k - 7 - 5 - 3 - 5 - 5) = k := by omega
    simp [h0, h1, h2, h3, h4, h5, this]

/-- A mask acts on each field by itself. -/
theorem encR_and (f7 g7 : BitVec 7) (rs2 q2 rs1 q1 : Reg) (f3 g3 : BitVec 3) (rd qd : Reg) (opc o : BitVec 7) :
    encR f7 rs2 rs1 f3 rd opc &&& encR g7 q2 q1 g3 qd o =
      encR (f7 &&& g7) (rs2 &&& q2) (rs1 &&& q1) (f3 &&& g3) (rd &&& qd) (opc &&& o) := by
  simp only [encR]
  apply BitVec.eq_of_getLsbD_eq
  intro k hk
  simp only [BitVec.getLsbD_and, BitVec.getLsbD_append]
  repeat' split
  all_goals rfl

end Sys2Proof
end

