-- ==== Sys2Proof/Laws/PerInstr.lean ====
section
/-!
SUPPORT. A family of statements, one per instruction: the encoder sets exactly the bits that the instruction's row of
spec/opcode_table.json fixes (its `mask` and `match`, copied here), whatever the operands.
-/

namespace Sys2Proof.Laws

/- One theorem after the other: elaborating them at once takes a thread, and its stack, for each. -/
set_option Elab.async false

open Sys2Proof

/-- The `mask` and `match` of a row; SWAP16, whose row gives none, has those of PKBT16 (rule R244). -/
def tableBits : Row → Word × Word
  | .rdov => (0xfffff07f#32, 0x00902073#32)
  | .clrov => (0xffffffff#32, 0x0090f073#32)
  | .csrrw => (0xfff0707f#32, 0x00901073#32)
  | .csrrs => (0xfff0707f#32, 0x00902073#32)
  | .csrrc => (0xfff0707f#32, 0x00903073#32)
  | .csrrwi => (0xfff0707f#32, 0x00905073#32)
  | .csrrsi => (0xfff0707f#32, 0x00906073#32)
  | .csrrci => (0xfff0707f#32, 0x00907073#32)
  | .lw => (0x0000707f#32, 0x00002003#32)
  | .sw => (0x0000707f#32, 0x00002023#32)
  | .ld => (0x0000707f#32, 0x00003003#32)
  | .sd => (0x0000707f#32, 0x00003023#32)
  | .addi => (0x0000707f#32, 0x00000013#32)
  | .lui => (0x0000007f#32, 0x00000037#32)
  | .bne => (0x0000707f#32, 0x00001063#32)
  | .clz => (0xfff0707f#32, 0x60001013#32)
  | .cmix => (0x0600707f#32, 0x06001033#32)
  | .fsr => (0x0600707f#32, 0x04005033#32)
  | .fsri => (0x0400707f#32, 0x04005013#32)
  | .fsrw => (0x0600707f#32, 0x0400503b#32)
  | .max => (0xfe00707f#32, 0x0a006033#32)
  | .min => (0xfe00707f#32, 0x0a004033#32)
  | .pack => (0xfe00707f#32, 0x08004033#32)
  | .packu => (0xfe00707f#32, 0x48004033#32)
  | .revRv32 => (0xfff0707f#32, 0x69f05013#32)
  | .revRv64 => (0xfff0707f#32, 0x6bf05013#32)
  | .rev8H => (0xfff0707f#32, 0x68805013#32)
  | .bpick => (0x0600707f#32, 0x00003077#32)
  | .maxw => (0xfe00707f#32, 0xf2000077#32)
  | .minw => (0xfe00707f#32, 0xf0000077#32)
  | .add16 => (0xfe00707f#32, 0x40000077#32)
  | .radd16 => (0xfe00707f#32, 0x00000077#32)
  | .uradd16 => (0xfe00707f#32, 0x20000077#32)
  | .kadd16 => (0xfe00707f#32, 0x10000077#32)
  | .ukadd16 => (0xfe00707f#32, 0x30000077#32)
  | .sub16 => (0xfe00707f#32, 0x42000077#32)
  | .rsub16 => (0xfe00707f#32, 0x02000077#32)
  | .ursub16 => (0xfe00707f#32, 0x22000077#32)
  | .ksub16 => (0xfe00707f#32, 0x12000077#32)
  | .uksub16 => (0xfe00707f#32, 0x32000077#32)
  | .cras16 => (0xfe00707f#32, 0x44000077#32)
  | .rcras16 => (0xfe00707f#32, 0x04000077#32)
  | .urcras16 => (0xfe00707f#32, 0x24000077#32)
  | .kcras16 => (0xfe00707f#32, 0x14000077#32)
  | .ukcras16 => (0xfe00707f#32, 0x34000077#32)
  | .crsa16 => (0xfe00707f#32, 0x46000077#32)
  | .rcrsa16 => (0xfe00707f#32, 0x06000077#32)
  | .urcrsa16 => (0xfe00707f#32, 0x26000077#32)
  | .kcrsa16 => (0xfe00707f#32, 0x16000077#32)
  | .ukcrsa16 => (0xfe00707f#32, 0x36000077#32)
  | .stas16 => (0xfe00707f#32, 0xf4002077#32)
  | .rstas16 => (0xfe00707f#32, 0xb4002077#32)
  | .urstas16 => (0xfe00707f#32, 0xd4002077#32)
  | .kstas16 => (0xfe00707f#32, 0xc4002077#32)
  | .ukstas16 => (0xfe00707f#32, 0xe4002077#32)
  | .stsa16 => (0xfe00707f#32, 0xf6002077#32)
  | .rstsa16 => (0xfe00707f#32, 0xb6002077#32)
  | .urstsa16 => (0xfe00707f#32, 0xd6002077#32)
  | .kstsa16 => (0xfe00707f#32, 0xc6002077#32)
  | .ukstsa16 => (0xfe00707f#32, 0xe6002077#32)
  | .add8 => (0xfe00707f#32, 0x48000077#32)
  | .radd8 => (0xfe00707f#32, 0x08000077#32)
  | .uradd8 => (0xfe00707f#32, 0x28000077#32)
  | .kadd8 => (0xfe00707f#32, 0x18000077#32)
  | .ukadd8 => (0xfe00707f#32, 0x38000077#32)
  | .sub8 => (0xfe00707f#32, 0x4a000077#32)
  | .rsub8 => (0xfe00707f#32, 0x0a000077#32)
  | .ursub8 => (0xfe00707f#32, 0x2a000077#32)
  | .ksub8 => (0xfe00707f#32, 0x1a000077#32)
  | .uksub8 => (0xfe00707f#32, 0x3a000077#32)
  | .sra16 => (0xfe00707f#32, 0x50000077#32)
  | .srai16 => (0xff00707f#32, 0x70000077#32)
  | .sra16U => (0xfe00707f#32, 0x60000077#32)
  | .srai16U => (0xff00707f#32, 0x71000077#32)
  | .srl16 => (0xfe00707f#32, 0x52000077#32)
  | .srli16 => (0xff00707f#32, 0x72000077#32)
  | .srl16U => (0xfe00707f#32, 0x62000077#32)
  | .srli16U => (0xff00707f#32, 0x73000077#32)
  | .sll16 => (0xfe00707f#32, 0x54000077#32)
  | .slli16 => (0xff00707f#32, 0x74000077#32)
  | .ksll16 => (0xfe00707f#32, 0x64000077#32)
  | .kslli16 => (0xff00707f#32, 0x75000077#32)
  | .kslra16 => (0xfe00707f#32, 0x56000077#32)
  | .kslra16U => (0xfe00707f#32, 0x66000077#32)
  | .sra8 => (0xfe00707f#32, 0x58000077#32)
  | .srai8 => (0xff80707f#32, 0x78000077#32)
  | .sra8U => (0xfe00707f#32, 0x68000077#32)
  | .srai8U => (0xff80707f#32, 0x78800077#32)
  | .srl8 => (0xfe00707f#32, 0x5a000077#32)
  | .srli8 => (0xff80707f#32, 0x7a000077#32)
  | .srl8U => (0xfe00707f#32, 0x6a000077#32)
  | .srli8U => (0xff80707f#32, 0x7a800077#32)
  | .sll8 => (0xfe00707f#32, 0x5c000077#32)
  | .slli8 => (0xff80707f#32, 0x7c000077#32)
  | .ksll8 => (0xfe00707f#32, 0x6c000077#32)
  | .kslli8 => (0xff80707f#32, 0x7c800077#32)
  | .kslra8 => (0xfe00707f#32, 0x5e000077#32)
  | .kslra8U => (0xfe00707f#32, 0x6e000077#32)
  | .cmpeq16 => (0xfe00707f#32, 0x4c000077#32)
  | .scmplt16 => (0xfe00707f#32, 0x0c000077#32)
  | .scmple16 => (0xfe00707f#32, 0x1c000077#32)
  | .ucmplt16 => (0xfe00707f#32, 0x2c000077#32)
  | .ucmple16 => (0xfe00707f#32, 0x3c000077#32)
  | .cmpeq8 => (0xfe00707f#32, 0x4e000077#32)
  | .scmplt8 => (0xfe00707f#32, 0x0e000077#32)
  | .scmple8 => (0xfe00707f#32, 0x1e000077#32)
  | .ucmplt8 => (0xfe00707f#32, 0x2e000077#32)
  | .ucmple8 => (0xfe00707f#32, 0x3e000077#32)
  | .smin16 => (0xfe00707f#32, 0x80000077#32)
  | .umin16 => (0xfe00707f#32, 0x90000077#32)
  | .smax16 => (0xfe00707f#32, 0x82000077#32)
  | .umax16 => (0xfe00707f#32, 0x92000077#32)
  | .sclip16 => (0xff00707f#32, 0x84000077#32)
  | .uclip16 => (0xff00707f#32, 0x85000077#32)
  | .kabs16 => (0xfff0707f#32, 0xad100077#32)
  | .clrs16 => (0xfff0707f#32, 0xae800077#32)
  | .clz16 => (0xfff0707f#32, 0xae900077#32)
  | .swap16 => (0xfe00707f#32, 0x1e001077#32)
  | .smin8 => (0xfe00707f#32, 0x88000077#32)
  | .umin8 => (0xfe00707f#32, 0x98000077#32)
  | .smax8 => (0xfe00707f#32, 0x8a000077#32)
  | .umax8 => (0xfe00707f#32, 0x9a000077#32)
  | .kabs8 => (0xfff0707f#32, 0xad000077#32)
  | .sclip8 => (0xff80707f#32, 0x8c000077#32)
  | .uclip8 => (0xff80707f#32, 0x8d000077#32)
  | .clrs8 => (0xfff0707f#32, 0xae000077#32)
  | .clz8 => (0xfff0707f#32, 0xae100077#32)
  | .swap8 => (0xfff0707f#32, 0xad800077#32)
  | .sunpkd810 => (0xfff0707f#32, 0xac800077#32)
  | .sunpkd820 => (0xfff0707f#32, 0xac900077#32)
  | .sunpkd830 => (0xfff0707f#32, 0xaca00077#32)
  | .sunpkd831 => (0xfff0707f#32, 0xacb00077#32)
  | .sunpkd832 => (0xfff0707f#32, 0xad300077#32)
  | .zunpkd810 => (0xfff0707f#32, 0xacc00077#32)
  | .zunpkd820 => (0xfff0707f#32, 0xacd00077#32)
  | .zunpkd830 => (0xfff0707f#32, 0xace00077#32)
  | .zunpkd831 => (0xfff0707f#32, 0xacf00077#32)
  | .zunpkd832 => (0xfff0707f#32, 0xad700077#32)
  | .smul16 => (0xfe00707f#32, 0xa0000077#32)
  | .smulx16 => (0xfe00707f#32, 0xa2000077#32)
  | .umul16 => (0xfe00707f#32, 0xb0000077#32)
  | .umulx16 => (0xfe00707f#32, 0xb2000077#32)
  | .khm16 => (0xfe00707f#32, 0x86000077#32)
  | .khmx16 => (0xfe00707f#32, 0x96000077#32)
  | .smul8 => (0xfe00707f#32, 0xa8000077#32)
  | .smulx8 => (0xfe00707f#32, 0xaa000077#32)
  | .umul8 => (0xfe00707f#32, 0xb8000077#32)
  | .umulx8 => (0xfe00707f#32, 0xba000077#32)
  | .khm8 => (0xfe00707f#32, 0x8e000077#32)
  | .khmx8 => (0xfe00707f#32, 0x9e000077#32)
  | .pkbb16 => (0xfe00707f#32, 0x0e001077#32)
  | .pkbt16 => (0xfe00707f#32, 0x1e001077#32)
  | .pktt16 => (0xfe00707f#32, 0x2e001077#32)
  | .pktb16 => (0xfe00707f#32, 0x3e001077#32)
  | .smmul => (0xfe00707f#32, 0x40001077#32)
  | .smmulRv32 => (0xfe00707f#32, 0x02001033#32)
  | .smmulU => (0xfe00707f#32, 0x50001077#32)
  | .kmmac => (0xfe00707f#32, 0x60001077#32)
  | .kmmacU => (0xfe00707f#32, 0x70001077#32)
  | .kmmsb => (0xfe00707f#32, 0x42001077#32)
  | .kmmsbU => (0xfe00707f#32, 0x52001077#32)
  | .kwmmul => (0xfe00707f#32, 0x62001077#32)
  | .kwmmulU => (0xfe00707f#32, 0x72001077#32)
  | .smmwb => (0xfe00707f#32, 0x44001077#32)
  | .smmwbU => (0xfe00707f#32, 0x54001077#32)
  | .smmwt => (0xfe00707f#32, 0x64001077#32)
  | .smmwtU => (0xfe00707f#32, 0x74001077#32)
  | .kmmawb => (0xfe00707f#32, 0x46001077#32)
  | .kmmawbU => (0xfe00707f#32, 0x56001077#32)
  | .kmmawt => (0xfe00707f#32, 0x66001077#32)
  | .kmmawtU => (0xfe00707f#32, 0x76001077#32)
  | .kmmwb2 => (0xfe00707f#32, 0x8e001077#32)
  | .kmmwb2U => (0xfe00707f#32, 0x9e001077#32)
  | .kmmwt2 => (0xfe00707f#32, 0xae001077#32)
  | .kmmwt2U => (0xfe00707f#32, 0xbe001077#32)
  | .kmmawb2 => (0xfe00707f#32, 0xce001077#32)
  | .kmmawb2U => (0xfe00707f#32, 0xde001077#32)
  | .kmmawt2 => (0xfe00707f#32, 0xee001077#32)
  | .kmmawt2U => (0xfe00707f#32, 0xfe001077#32)
  | .smbb16 => (0xfe00707f#32, 0x08001077#32)
  | .smbt16 => (0xfe00707f#32, 0x18001077#32)
  | .smtt16 => (0xfe00707f#32, 0x28001077#32)
  | .kmda => (0xfe00707f#32, 0x38001077#32)
  | .kmxda => (0xfe00707f#32, 0x3a001077#32)
  | .smds => (0xfe00707f#32, 0x58001077#32)
  | .smdrs => (0xfe00707f#32, 0x68001077#32)
  | .smxds => (0xfe00707f#32, 0x78001077#32)
  | .kmabb => (0xfe00707f#32, 0x5a001077#32)
  | .kmabt => (0xfe00707f#32, 0x6a001077#32)
  | .kmatt => (0xfe00707f#32, 0x7a001077#32)
  | .kmada => (0xfe00707f#32, 0x48001077#32)
  | .kmaxda => (0xfe00707f#32, 0x4a001077#32)
  | .kmads => (0xfe00707f#32, 0x5c001077#32)
  | .kmadrs => (0xfe00707f#32, 0x6c001077#32)
  | .kmaxds => (0xfe00707f#32, 0x7c001077#32)
  | .kmsda => (0xfe00707f#32, 0x4c001077#32)
  | .kmsxda => (0xfe00707f#32, 0x4e001077#32)
  | .smal => (0xfe00707f#32, 0x5e001077#32)
  | .sclip32 => (0xfe00707f#32, 0xe4000077#32)
  | .uclip32 => (0xfe00707f#32, 0xf4000077#32)
  | .clrs32 => (0xfff0707f#32, 0xaf800077#32)
  | .clz32 => (0xfff0707f#32, 0xaf900077#32)
  | .pbsad => (0xfe00707f#32, 0xfc000077#32)
  | .pbsada => (0xfe00707f#32, 0xfe000077#32)
  | .smaqa => (0xfe00707f#32, 0xc8000077#32)
  | .umaqa => (0xfe00707f#32, 0xcc000077#32)
  | .smaqaSu => (0xfe00707f#32, 0xca000077#32)
  | .add64 => (0xfe00707f#32, 0xc0001077#32)
  | .radd64 => (0xfe00707f#32, 0x80001077#32)
  | .uradd64 => (0xfe00707f#32, 0xa0001077#32)
  | .kadd64 => (0xfe00707f#32, 0x90001077#32)
  | .ukadd64 => (0xfe00707f#32, 0xb0001077#32)
  | .sub64 => (0xfe00707f#32, 0xc2001077#32)
  | .rsub64 => (0xfe00707f#32, 0x82001077#32)
  | .ursub64 => (0xfe00707f#32, 0xa2001077#32)
  | .ksub64 => (0xfe00707f#32, 0x92001077#32)
  | .uksub64 => (0xfe00707f#32, 0xb2001077#32)
  | .smar64 => (0xfe00707f#32, 0x84001077#32)
  | .smsr64 => (0xfe00707f#32, 0x86001077#32)
  | .umar64 => (0xfe00707f#32, 0xa4001077#32)
  | .umsr64 => (0xfe00707f#32, 0xa6001077#32)
  | .kmar64 => (0xfe00707f#32, 0x94001077#32)
  | .kmsr64 => (0xfe00707f#32, 0x96001077#32)
  | .ukmar64 => (0xfe00707f#32, 0xb4001077#32)
  | .ukmsr64 => (0xfe00707f#32, 0xb6001077#32)
  | .smalbb => (0xfe00707f#32, 0x88001077#32)
  | .smalbt => (0xfe00707f#32, 0x98001077#32)
  | .smaltt => (0xfe00707f#32, 0xa8001077#32)
  | .smalda => (0xfe00707f#32, 0x8c001077#32)
  | .smalxda => (0xfe00707f#32, 0x9c001077#32)
  | .smalds => (0xfe00707f#32, 0x8a001077#32)
  | .smaldrs => (0xfe00707f#32, 0x9a001077#32)
  | .smalxds => (0xfe00707f#32, 0xaa001077#32)
  | .smslda => (0xfe00707f#32, 0xac001077#32)
  | .smslxda => (0xfe00707f#32, 0xbc001077#32)
  | .kaddh => (0xfe00707f#32, 0x04001077#32)
  | .ksubh => (0xfe00707f#32, 0x06001077#32)
  | .ukaddh => (0xfe00707f#32, 0x14001077#32)
  | .uksubh => (0xfe00707f#32, 0x16001077#32)
  | .khmbb => (0xfe00707f#32, 0x0c001077#32)
  | .khmbt => (0xfe00707f#32, 0x1c001077#32)
  | .khmtt => (0xfe00707f#32, 0x2c001077#32)
  | .kaddw => (0xfe00707f#32, 0x00001077#32)
  | .ukaddw => (0xfe00707f#32, 0x10001077#32)
  | .ksubw => (0xfe00707f#32, 0x02001077#32)
  | .uksubw => (0xfe00707f#32, 0x12001077#32)
  | .kdmbb => (0xfe00707f#32, 0x0a001077#32)
  | .kdmbt => (0xfe00707f#32, 0x1a001077#32)
  | .kdmtt => (0xfe00707f#32, 0x2a001077#32)
  | .kslraw => (0xfe00707f#32, 0x6e001077#32)
  | .kslrawU => (0xfe00707f#32, 0x7e001077#32)
  | .ksllw => (0xfe00707f#32, 0x26001077#32)
  | .kslliw => (0xfe00707f#32, 0x36001077#32)
  | .kdmabb => (0xfe00707f#32, 0xd2001077#32)
  | .kdmabt => (0xfe00707f#32, 0xe2001077#32)
  | .kdmatt => (0xfe00707f#32, 0xf2001077#32)
  | .kabsw => (0xfff0707f#32, 0xad400077#32)
  | .raddw => (0xfe00707f#32, 0x20001077#32)
  | .uraddw => (0xfe00707f#32, 0x30001077#32)
  | .rsubw => (0xfe00707f#32, 0x22001077#32)
  | .ursubw => (0xfe00707f#32, 0x32001077#32)
  | .mulr64 => (0xfe00707f#32, 0xf0001077#32)
  | .mulsr64 => (0xfe00707f#32, 0xe0001077#32)
  | .msubr32 => (0xfe00707f#32, 0xc6001077#32)
  | .ave => (0xfe00707f#32, 0xe0000077#32)
  | .sraU => (0xfe00707f#32, 0x24001077#32)
  | .bitrev => (0xfe00707f#32, 0xe6000077#32)
  | .bitreviRv32 => (0xfe00707f#32, 0xe8000077#32)
  | .bitreviRv64 => (0xfc00707f#32, 0xe8000077#32)
  | .sraiURv32 => (0xfe00707f#32, 0xd4001077#32)
  | .sraiURv64 => (0xfc00707f#32, 0xd4001077#32)
  | .insbRv32 => (0xffc0707f#32, 0xac000077#32)
  | .insbRv64 => (0xff80707f#32, 0xac000077#32)
  | .wext => (0xfe00707f#32, 0xce000077#32)
  | .wexti => (0xfe00707f#32, 0xde000077#32)
  | .maddr32 => (0xfe00707f#32, 0xc4001077#32)
  | .add32 => (0xfe00707f#32, 0x40002077#32)
  | .radd32 => (0xfe00707f#32, 0x00002077#32)
  | .uradd32 => (0xfe00707f#32, 0x20002077#32)
  | .kadd32 => (0xfe00707f#32, 0x10002077#32)
  | .ukadd32 => (0xfe00707f#32, 0x30002077#32)
  | .sub32 => (0xfe00707f#32, 0x42002077#32)
  | .rsub32 => (0xfe00707f#32, 0x02002077#32)
  | .ursub32 => (0xfe00707f#32, 0x22002077#32)
  | .ksub32 => (0xfe00707f#32, 0x12002077#32)
  | .uksub32 => (0xfe00707f#32, 0x32002077#32)
  | .cras32 => (0xfe00707f#32, 0x44002077#32)
  | .rcras32 => (0xfe00707f#32, 0x04002077#32)
  | .urcras32 => (0xfe00707f#32, 0x24002077#32)
  | .kcras32 => (0xfe00707f#32, 0x14002077#32)
  | .ukcras32 => (0xfe00707f#32, 0x34002077#32)
  | .crsa32 => (0xfe00707f#32, 0x46002077#32)
  | .rcrsa32 => (0xfe00707f#32, 0x06002077#32)
  | .urcrsa32 => (0xfe00707f#32, 0x26002077#32)
  | .kcrsa32 => (0xfe00707f#32, 0x16002077#32)
  | .ukcrsa32 => (0xfe00707f#32, 0x36002077#32)
  | .stas32 => (0xfe00707f#32, 0xf0002077#32)
  | .rstas32 => (0xfe00707f#32, 0xb0002077#32)
  | .urstas32 => (0xfe00707f#32, 0xd0002077#32)
  | .kstas32 => (0xfe00707f#32, 0xc0002077#32)
  | .ukstas32 => (0xfe00707f#32, 0xe0002077#32)
  | .stsa32 => (0xfe00707f#32, 0xf2002077#32)
  | .rstsa32 => (0xfe00707f#32, 0xb2002077#32)
  | .urstsa32 => (0xfe00707f#32, 0xd2002077#32)
  | .kstsa32 => (0xfe00707f#32, 0xc2002077#32)
  | .ukstsa32 => (0xfe00707f#32, 0xe2002077#32)
  | .sra32 => (0xfe00707f#32, 0x50002077#32)
  | .srai32 => (0xfe00707f#32, 0x70002077#32)
  | .sra32U => (0xfe00707f#32, 0x60002077#32)
  | .srai32U => (0xfe00707f#32, 0x80002077#32)
  | .srl32 => (0xfe00707f#32, 0x52002077#32)
  | .srli32 => (0xfe00707f#32, 0x72002077#32)
  | .srl32U => (0xfe00707f#32, 0x62002077#32)
  | .srli32U => (0xfe00707f#32, 0x82002077#32)
  | .sll32 => (0xfe00707f#32, 0x54002077#32)
  | .slli32 => (0xfe00707f#32, 0x74002077#32)
  | .ksll32 => (0xfe00707f#32, 0x64002077#32)
  | .kslli32 => (0xfe00707f#32, 0x84002077#32)
  | .kslra32 => (0xfe00707f#32, 0x56002077#32)
  | .kslra32U => (0xfe00707f#32, 0x66002077#32)
  | .smin32 => (0xfe00707f#32, 0x90002077#32)
  | .umin32 => (0xfe00707f#32, 0xa0002077#32)
  | .smax32 => (0xfe00707f#32, 0x92002077#32)
  | .umax32 => (0xfe00707f#32, 0xa2002077#32)
  | .kabs32 => (0xfff0707f#32, 0xad200077#32)
  | .khmbb16 => (0xfe00707f#32, 0xdc001077#32)
  | .khmbt16 => (0xfe00707f#32, 0xec001077#32)
  | .khmtt16 => (0xfe00707f#32, 0xfc001077#32)
  | .kdmbb16 => (0xfe00707f#32, 0xda001077#32)
  | .kdmbt16 => (0xfe00707f#32, 0xea001077#32)
  | .kdmtt16 => (0xfe00707f#32, 0xfa001077#32)
  | .kdmabb16 => (0xfe00707f#32, 0xd8001077#32)
  | .kdmabt16 => (0xfe00707f#32, 0xe8001077#32)
  | .kdmatt16 => (0xfe00707f#32, 0xf8001077#32)
  | .smbb32 => (0xfe00707f#32, 0xe0001077#32)
  | .smbt32 => (0xfe00707f#32, 0x18002077#32)
  | .smtt32 => (0xfe00707f#32, 0x28002077#32)
  | .kmabb32 => (0xfe00707f#32, 0x5a002077#32)
  | .kmabt32 => (0xfe00707f#32, 0x6a002077#32)
  | .kmatt32 => (0xfe00707f#32, 0x7a002077#32)
  | .kmda32 => (0xfe00707f#32, 0x38002077#32)
  | .kmxda32 => (0xfe00707f#32, 0x3a002077#32)
  | .kmada32 => (0xfe00707f#32, 0x94001077#32)
  | .kmaxda32 => (0xfe00707f#32, 0x4a002077#32)
  | .kmads32 => (0xfe00707f#32, 0x5c002077#32)
  | .kmadrs32 => (0xfe00707f#32, 0x6c002077#32)
  | .kmaxds32 => (0xfe00707f#32, 0x7c002077#32)
  | .kmsda32 => (0xfe00707f#32, 0x4c002077#32)
  | .kmsxda32 => (0xfe00707f#32, 0x4e002077#32)
  | .smds32 => (0xfe00707f#32, 0x58002077#32)
  | .smdrs32 => (0xfe00707f#32, 0x68002077#32)
  | .smxds32 => (0xfe00707f#32, 0x78002077#32)
  | .sraiwU => (0xfe00707f#32, 0x34001077#32)
  | .pkbb32 => (0xfe00707f#32, 0x08004033#32)
  | .pkbt32 => (0xfe00707f#32, 0x1e002077#32)
  | .pktb32 => (0xfe00707f#32, 0x3e002077#32)
  | .pktt32 => (0xfe00707f#32, 0x48004033#32)

/-- The fixed bits of the instruction's row hold in its encoding. -/
def FixedBits.Statement (i : Instr) : Prop := encode i &&& (tableBits i.row).1 = (tableBits i.row).2

/-! One lemma per mask. -/

theorem and_ones (n : Nat) (v : BitVec n) : v &&& BitVec.allOnes n = v := BitVec.and_allOnes

theorem fixed_funct (f7 rs2 rs1 f3 rd opc) :
    encR f7 rs2 rs1 f3 rd opc &&& 0xfe00707f#32 = encR f7 0#5 0#5 f3 0#5 opc :=
  (encR_and f7 (BitVec.allOnes 7) rs2 0#5 rs1 0#5 f3 (BitVec.allOnes 3) rd 0#5 opc (BitVec.allOnes 7)).trans
    (by simp only [and_ones, BitVec.and_zero])

theorem fixed_oneop (f7 rs2 rs1 f3 rd opc) :
    encR f7 rs2 rs1 f3 rd opc &&& 0xfff0707f#32 = encR f7 rs2 0#5 f3 0#5 opc :=
  (encR_and f7 (BitVec.allOnes 7) rs2 (BitVec.allOnes 5) rs1 0#5 f3 (BitVec.allOnes 3) rd 0#5 opc
    (BitVec.allOnes 7)).trans (by simp only [and_ones, BitVec.and_zero])

theorem fixed_source (f7 rs2 rs1 f3 rd opc) :
    encR f7 rs2 rs1 f3 rd opc &&& 0xfffff07f#32 = encR f7 rs2 rs1 f3 0#5 opc :=
  (encR_and f7 (BitVec.allOnes 7) rs2 (BitVec.allOnes 5) rs1 (BitVec.allOnes 5) f3 (BitVec.allOnes 3) rd 0#5 opc
    (BitVec.allOnes 7)).trans (by simp only [and_ones, BitVec.and_zero])

theorem fixed_opcode (f7 rs2 rs1 f3 rd opc) :
    encR f7 rs2 rs1 f3 rd opc &&& 0x0000707f#32 = encR 0#7 0#5 0#5 f3 0#5 opc :=
  (encR_and f7 0#7 rs2 0#5 rs1 0#5 f3 (BitVec.allOnes 3) rd 0#5 opc (BitVec.allOnes 7)).trans
    (by simp only [and_ones, BitVec.and_zero])

theorem fixed_upper (f7 rs2 rs1 f3 rd opc) :
    encR f7 rs2 rs1 f3 rd opc &&& 0x0000007f#32 = encR 0#7 0#5 0#5 0#3 0#5 opc :=
  (encR_and f7 0#7 rs2 0#5 rs1 0#5 f3 0#3 rd 0#5 opc (BitVec.allOnes 7)).trans
    (by simp only [and_ones, BitVec.and_zero])

theorem and_low2 : ∀ (a : BitVec 5) (b : BitVec 2), (a ++ b) &&& 0b0000011#7 = 0#5 ++ b := by decide

theorem fixed_rs3 (rs3 : Reg) (f2 : BitVec 2) (rs2 rs1 f3 rd opc) :
    encR (rs3 ++ f2) rs2 rs1 f3 rd opc &&& 0x0600707f#32 = encR (0#5 ++ f2) 0#5 0#5 f3 0#5 opc :=
  (encR_and (rs3 ++ f2) 0b0000011#7 rs2 0#5 rs1 0#5 f3 (BitVec.allOnes 3) rd 0#5 opc (BitVec.allOnes 7)).trans
    (by simp only [and_ones, BitVec.and_zero, and_low2])

theorem and_bit1 : ∀ (a : BitVec 5) (c b : BitVec 1), (a ++ c ++ b) &&& 0b0000010#7 = 0#5 ++ c ++ 0#1 := by decide

theorem fixed_fsri (rs3 : Reg) (c b : BitVec 1) (rs2 rs1 f3 rd opc) :
    encR (rs3 ++ c ++ b) rs2 rs1 f3 rd opc &&& 0x0400707f#32 = encR (0#5 ++ c ++ 0#1) 0#5 0#5 f3 0#5 opc :=
  (encR_and (rs3 ++ c ++ b) 0b0000010#7 rs2 0#5 rs1 0#5 f3 (BitVec.allOnes 3) rd 0#5 opc (BitVec.allOnes 7)).trans
    (by simp only [and_ones, BitVec.and_zero, and_bit1])

theorem and_high6 : ∀ (a : BitVec 6) (b : BitVec 1), (a ++ b) &&& 0b1111110#7 = a ++ 0#1 := by decide

theorem fixed_imm6 (f6 : BitVec 6) (b : BitVec 1) (rs2 rs1 f3 rd opc) :
    encR (f6 ++ b) rs2 rs1 f3 rd opc &&& 0xfc00707f#32 = encR (f6 ++ 0#1) 0#5 0#5 f3 0#5 opc :=
  (encR_and (f6 ++ b) 0b1111110#7 rs2 0#5 rs1 0#5 f3 (BitVec.allOnes 3) rd 0#5 opc (BitVec.allOnes 7)).trans
    (by simp only [and_ones, BitVec.and_zero, and_high6])

theorem and_high1 : ∀ (a : BitVec 1) (b : BitVec 4), (a ++ b) &&& 0b10000#5 = a ++ 0#4 := by decide

theorem fixed_imm4 (f7) (c : BitVec 1) (imm : BitVec 4) (rs1 f3 rd opc) :
    encR f7 (c ++ imm) rs1 f3 rd opc &&& 0xff00707f#32 = encR f7 (c ++ 0#4) 0#5 f3 0#5 opc :=
  (encR_and f7 (BitVec.allOnes 7) (c ++ imm) 0b10000#5 rs1 0#5 f3 (BitVec.allOnes 3) rd 0#5 opc
    (BitVec.allOnes 7)).trans (by simp only [and_ones, BitVec.and_zero, and_high1])

theorem and_high2 : ∀ (a : BitVec 2) (b : BitVec 3), (a ++ b) &&& 0b11000#5 = a ++ 0#3 := by decide

theorem fixed_imm3 (f7) (c : BitVec 2) (imm : BitVec 3) (rs1 f3 rd opc) :
    encR f7 (c ++ imm) rs1 f3 rd opc &&& 0xff80707f#32 = encR f7 (c ++ 0#3) 0#5 f3 0#5 opc :=
  (encR_and f7 (BitVec.allOnes 7) (c ++ imm) 0b11000#5 rs1 0#5 f3 (BitVec.allOnes 3) rd 0#5 opc
    (BitVec.allOnes 7)).trans (by simp only [and_ones, BitVec.and_zero, and_high2])

theorem and_high3 : ∀ (a : BitVec 3) (b : BitVec 2), (a ++ b) &&& 0b11100#5 = a ++ 0#2 := by decide

theorem fixed_imm2 (f7) (c : BitVec 3) (imm : BitVec 2) (rs1 f3 rd opc) :
    encR f7 (c ++ imm) rs1 f3 rd opc &&& 0xffc0707f#32 = encR f7 (c ++ 0#2) 0#5 f3 0#5 opc :=
  (encR_and f7 (BitVec.allOnes 7) (c ++ imm) 0b11100#5 rs1 0#5 f3 (BitVec.allOnes 3) rd 0#5 opc
    (BitVec.allOnes 7)).trans (by simp only [and_ones, BitVec.and_zero, and_high3])

/-! One lemma per instruction. -/

theorem FixedBits.rdov (rd : Reg) : FixedBits.Statement (.rdov rd) := (fixed_source _ _ _ _ _ _).trans rfl
theorem FixedBits.clrov : FixedBits.Statement .clrov := rfl
theorem FixedBits.csrrw (rd rs1 : Reg) : FixedBits.Statement (.csrrw rd rs1) := (fixed_oneop _ _ _ _ _ _).trans rfl
theorem FixedBits.csrrs (rd rs1 : Reg) : FixedBits.Statement (.csrrs rd rs1) := (fixed_oneop _ _ _ _ _ _).trans rfl
theorem FixedBits.csrrc (rd rs1 : Reg) : FixedBits.Statement (.csrrc rd rs1) := (fixed_oneop _ _ _ _ _ _).trans rfl
theorem FixedBits.csrrwi (rd : Reg) (uimm : BitVec 5) : FixedBits.Statement (.csrrwi rd uimm) :=
  (fixed_oneop _ _ _ _ _ _).trans rfl
theorem FixedBits.csrrsi (rd : Reg) (uimm : BitVec 5) : FixedBits.Statement (.csrrsi rd uimm) :=
  (fixed_oneop _ _ _ _ _ _).trans rfl
theorem FixedBits.csrrci (rd : Reg) (uimm : BitVec 5) : FixedBits.Statement (.csrrci rd uimm) :=
  (fixed_oneop _ _ _ _ _ _).trans rfl
theorem FixedBits.lw (rd rs1 : Reg) (imm : BitVec 12) : FixedBits.Statement (.lw rd rs1 imm) :=
  (fixed_opcode _ _ _ _ _ _).trans rfl
theorem FixedBits.sw (rs2 rs1 : Reg) (imm : BitVec 12) : FixedBits.Statement (.sw rs2 rs1 imm) :=
  (fixed_opcode _ _ _ _ _ _).trans rfl
theorem FixedBits.ld (rd rs1 : Reg) (imm : BitVec 12) : FixedBits.Statement (.ld rd rs1 imm) :=
  (fixed_opcode _ _ _ _ _ _).trans rfl
theorem FixedBits.sd (rs2 rs1 : Reg) (imm : BitVec 12) : FixedBits.Statement (.sd rs2 rs1 imm) :=
  (fixed_opcode _ _ _ _ _ _).trans rfl
theorem FixedBits.addi (rd rs1 : Reg) (imm : BitVec 12) : FixedBits.Statement (.addi rd rs1 imm) :=
  (fixed_opcode _ _ _ _ _ _).trans rfl
theorem FixedBits.lui (rd : Reg) (imm : BitVec 20) : FixedBits.Statement (.lui rd imm) :=
  (fixed_upper _ _ _ _ _ _).trans rfl
theorem FixedBits.bne (rs1 rs2 : Reg) (offset : BitVec 13) : FixedBits.Statement (.bne rs1 rs2 offset) :=
  (fixed_opcode _ _ _ _ _ _).trans rfl
theorem FixedBits.clz (rd rs1 : Reg) : FixedBits.Statement (.clz rd rs1) := (fixed_oneop _ _ _ _ _ _).trans rfl
theorem FixedBits.cmix (rd rs1 rs2 rs3 : Reg) : FixedBits.Statement (.cmix rd rs1 rs2 rs3) :=
  (fixed_rs3 _ _ _ _ _ _ _).trans rfl
theorem FixedBits.fsr (rd rs1 rs2 rs3 : Reg) : FixedBits.Statement (.fsr rd rs1 rs2 rs3) :=
  (fixed_rs3 _ _ _ _ _ _ _).trans rfl
theorem FixedBits.fsri (rd rs1 rs3 : Reg) (imm : BitVec 6) : FixedBits.Statement (.fsri rd rs1 rs3 imm) :=
  (fixed_fsri _ _ _ _ _ _ _ _).trans rfl
theorem FixedBits.fsrw (rd rs1 rs2 rs3 : Reg) : FixedBits.Statement (.fsrw rd rs1 rs2 rs3) :=
  (fixed_rs3 _ _ _ _ _ _ _).trans rfl
theorem FixedBits.max (rd rs1 rs2 : Reg) : FixedBits.Statement (.max rd rs1 rs2) := (fixed_funct _ _ _ _ _ _).trans rfl
theorem FixedBits.min (rd rs1 rs2 : Reg) : FixedBits.Statement (.min rd rs1 rs2) := (fixed_funct _ _ _ _ _ _).trans rfl
theorem FixedBits.pack (rd rs1 rs2 : Reg) : FixedBits.Statement (.pack rd rs1 rs2) :=
  (fixed_funct _ _ _ _ _ _).trans rfl
theorem FixedBits.packu (rd rs1 rs2 : Reg) : FixedBits.Statement (.packu rd rs1 rs2) :=
  (fixed_funct _ _ _ _ _ _).trans rfl
theorem FixedBits.revRv32 (rd rs1 : Reg) : FixedBits.Statement (.revRv32 rd rs1) := (fixed_oneop _ _ _ _ _ _).trans rfl
theorem FixedBits.revRv64 (rd rs1 : Reg) : FixedBits.Statement (.revRv64 rd rs1) := (fixed_oneop _ _ _ _ _ _).trans rfl
theorem FixedBits.rev8H (rd rs1 : Reg) : FixedBits.Statement (.rev8H rd rs1) := (fixed_oneop _ _ _ _ _ _).trans rfl
theorem FixedBits.bpick (rd rs1 rs2 rc : Reg) : FixedBits.Statement (.bpick rd rs1 rs2 rc) :=
  (fixed_rs3 _ _ _ _ _ _ _).trans rfl
theorem FixedBits.maxw (rd rs1 rs2 : Reg) : FixedBits.Statement (.maxw rd rs1 rs2) :=
  (fixed_funct _ _ _ _ _ _).trans rfl
theorem FixedBits.minw (rd rs1 rs2 : Reg) : FixedBits.Statement (.minw rd rs1 rs2) :=
  (fixed_funct _ _ _ _ _ _).trans rfl
theorem FixedBits.add16 (rd rs1 rs2 : Reg) : FixedBits.Statement (.add16 rd rs1 rs2) :=
  (fixed_funct _ _ _ _ _ _).trans rfl
theorem FixedBits.radd16 (rd rs1 rs2 : Reg) : FixedBits.Statement (.radd16 rd rs1 rs2) :=
  (fixed_funct _ _ _ _ _ _).trans rfl
theorem FixedBits.uradd16 (rd rs1 rs2 : Reg) : FixedBits.Statement (.uradd16 rd rs1 rs2) :=
  (fixed_funct _ _ _ _ _ _).trans rfl
theorem FixedBits.kadd16 (rd rs1 rs2 : Reg) : FixedBits.Statement (.kadd16 rd rs1 rs2) :=
  (fixed_funct _ _ _ _ _ _).trans rfl
theorem FixedBits.ukadd16 (rd rs1 rs2 : Reg) : FixedBits.Statement (.ukadd16 rd rs1 rs2) :=
  (fixed_funct _ _ _ _ _ _).trans rfl
theorem FixedBits.sub16 (rd rs1 rs2 : Reg) : FixedBits.Statement (.sub16 rd rs1 rs2) :=
  (fixed_funct _ _ _ _ _ _).trans rfl
theorem FixedBits.rsub16 (rd rs1 rs2 : Reg) : FixedBits.Statement (.rsub16 rd rs1 rs2) :=
  (fixed_funct _ _ _ _ _ _).trans rfl
theorem FixedBits.ursub16 (rd rs1 rs2 : Reg) : FixedBits.Statement (.ursub16 rd rs1 rs2) :=
  (fixed_funct _ _ _ _ _ _).trans rfl
theorem FixedBits.ksub16 (rd rs1 rs2 : Reg) : FixedBits.Statement (.ksub16 rd rs1 rs2) :=
  (fixed_funct _ _ _ _ _ _).trans rfl
theorem FixedBits.uksub16 (rd rs1 rs2 : Reg) : FixedBits.Statement (.uksub16 rd rs1 rs2) :=
  (fixed_funct _ _ _ _ _ _).trans rfl
theorem FixedBits.cras16 (rd rs1 rs2 : Reg) : FixedBits.Statement (.cras16 rd rs1 rs2) :=
  (fixed_funct _ _ _ _ _ _).trans rfl
theorem FixedBits.rcras16 (rd rs1 rs2 : Reg) : FixedBits.Statement (.rcras16 rd rs1 rs2) :=
  (fixed_funct _ _ _ _ _ _).trans rfl
theorem FixedBits.urcras16 (rd rs1 rs2 : Reg) : FixedBits.Statement (.urcras16 rd rs1 rs2) :=
  (fixed_funct _ _ _ _ _ _).trans rfl
theorem FixedBits.kcras16 (rd rs1 rs2 : Reg) : FixedBits.Statement (.kcras16 rd rs1 rs2) :=
  (fixed_funct _ _ _ _ _ _).trans rfl
theorem FixedBits.ukcras16 (rd rs1 rs2 : Reg) : FixedBits.Statement (.ukcras16 rd rs1 rs2) :=
  (fixed_funct _ _ _ _ _ _).trans rfl
theorem FixedBits.crsa16 (rd rs1 rs2 : Reg) : FixedBits.Statement (.crsa16 rd rs1 rs2) :=
  (fixed_funct _ _ _ _ _ _).trans rfl
theorem FixedBits.rcrsa16 (rd rs1 rs2 : Reg) : FixedBits.Statement (.rcrsa16 rd rs1 rs2) :=
  (fixed_funct _ _ _ _ _ _).trans rfl
theorem FixedBits.urcrsa16 (rd rs1 rs2 : Reg) : FixedBits.Statement (.urcrsa16 rd rs1 rs2) :=
  (fixed_funct _ _ _ _ _ _).trans rfl
theorem FixedBits.kcrsa16 (rd rs1 rs2 : Reg) : FixedBits.Statement (.kcrsa16 rd rs1 rs2) :=
  (fixed_funct _ _ _ _ _ _).trans rfl
theorem FixedBits.ukcrsa16 (rd rs1 rs2 : Reg) : FixedBits.Statement (.ukcrsa16 rd rs1 rs2) :=
  (fixed_funct _ _ _ _ _ _).trans rfl
theorem FixedBits.stas16 (rd rs1 rs2 : Reg) : FixedBits.Statement (.stas16 rd rs1 rs2) :=
  (fixed_funct _ _ _ _ _ _).trans rfl
theorem FixedBits.rstas16 (rd rs1 rs2 : Reg) : FixedBits.Statement (.rstas16 rd rs1 rs2) :=
  (fixed_funct _ _ _ _ _ _).trans rfl
theorem FixedBits.urstas16 (rd rs1 rs2 : Reg) : FixedBits.Statement (.urstas16 rd rs1 rs2) :=
  (fixed_funct _ _ _ _ _ _).trans rfl
theorem FixedBits.kstas16 (rd rs1 rs2 : Reg) : FixedBits.Statement (.kstas16 rd rs1 rs2) :=
  (fixed_funct _ _ _ _ _ _).trans rfl
theorem FixedBits.ukstas16 (rd rs1 rs2 : Reg) : FixedBits.Statement (.ukstas16 rd rs1 rs2) :=
  (fixed_funct _ _ _ _ _ _).trans rfl
theorem FixedBits.stsa16 (rd rs1 rs2 : Reg) : FixedBits.Statement (.stsa16 rd rs1 rs2) :=
  (fixed_funct _ _ _ _ _ _).trans rfl
theorem FixedBits.rstsa16 (rd rs1 rs2 : Reg) : FixedBits.Statement (.rstsa16 rd rs1 rs2) :=
  (fixed_funct _ _ _ _ _ _).trans rfl
theorem FixedBits.urstsa16 (rd rs1 rs2 : Reg) : FixedBits.Statement (.urstsa16 rd rs1 rs2) :=
  (fixed_funct _ _ _ _ _ _).trans rfl
theorem FixedBits.kstsa16 (rd rs1 rs2 : Reg) : FixedBits.Statement (.kstsa16 rd rs1 rs2) :=
  (fixed_funct _ _ _ _ _ _).trans rfl
theorem FixedBits.ukstsa16 (rd rs1 rs2 : Reg) : FixedBits.Statement (.ukstsa16 rd rs1 rs2) :=
  (fixed_funct _ _ _ _ _ _).trans rfl
theorem FixedBits.add8 (rd rs1 rs2 : Reg) : FixedBits.Statement (.add8 rd rs1 rs2) :=
  (fixed_funct _ _ _ _ _ _).trans rfl
theorem FixedBits.radd8 (rd rs1 rs2 : Reg) : FixedBits.Statement (.radd8 rd rs1 rs2) :=
  (fixed_funct _ _ _ _ _ _).trans rfl
theorem FixedBits.uradd8 (rd rs1 rs2 : Reg) : FixedBits.Statement (.uradd8 rd rs1 rs2) :=
  (fixed_funct _ _ _ _ _ _).trans rfl
theorem FixedBits.kadd8 (rd rs1 rs2 : Reg) : FixedBits.Statement (.kadd8 rd rs1 rs2) :=
  (fixed_funct _ _ _ _ _ _).trans rfl
theorem FixedBits.ukadd8 (rd rs1 rs2 : Reg) : FixedBits.Statement (.ukadd8 rd rs1 rs2) :=
  (fixed_funct _ _ _ _ _ _).trans rfl
theorem FixedBits.sub8 (rd rs1 rs2 : Reg) : FixedBits.Statement (.sub8 rd rs1 rs2) :=
  (fixed_funct _ _ _ _ _ _).trans rfl
theorem FixedBits.rsub8 (rd rs1 rs2 : Reg) : FixedBits.Statement (.rsub8 rd rs1 rs2) :=
  (fixed_funct _ _ _ _ _ _).trans rfl
theorem FixedBits.ursub8 (rd rs1 rs2 : Reg) : FixedBits.Statement (.ursub8 rd rs1 rs2) :=
  (fixed_funct _ _ _ _ _ _).trans rfl
theorem FixedBits.ksub8 (rd rs1 rs2 : Reg) : FixedBits.Statement (.ksub8 rd rs1 rs2) :=
  (fixed_funct _ _ _ _ _ _).trans rfl
theorem FixedBits.uksub8 (rd rs1 rs2 : Reg) : FixedBits.Statement (.uksub8 rd rs1 rs2) :=
  (fixed_funct _ _ _ _ _ _).trans rfl
theorem FixedBits.sra16 (rd rs1 rs2 : Reg) : FixedBits.Statement (.sra16 rd rs1 rs2) :=
  (fixed_funct _ _ _ _ _ _).trans rfl
theorem FixedBits.srai16 (rd rs1 : Reg) (imm : BitVec 4) : FixedBits.Statement (.srai16 rd rs1 imm) :=
  (fixed_imm4 _ _ _ _ _ _ _).trans rfl
theorem FixedBits.sra16U (rd rs1 rs2 : Reg) : FixedBits.Statement (.sra16U rd rs1 rs2) :=
  (fixed_funct _ _ _ _ _ _).trans rfl
theorem FixedBits.srai16U (rd rs1 : Reg) (imm : BitVec 4) : FixedBits.Statement (.srai16U rd rs1 imm) :=
  (fixed_imm4 _ _ _ _ _ _ _).trans rfl
theorem FixedBits.srl16 (rd rs1 rs2 : Reg) : FixedBits.Statement (.srl16 rd rs1 rs2) :=
  (fixed_funct _ _ _ _ _ _).trans rfl
theorem FixedBits.srli16 (rd rs1 : Reg) (imm : BitVec 4) : FixedBits.Statement (.srli16 rd rs1 imm) :=
  (fixed_imm4 _ _ _ _ _ _ _).trans rfl
theorem FixedBits.srl16U (rd rs1 rs2 : Reg) : FixedBits.Statement (.srl16U rd rs1 rs2) :=
  (fixed_funct _ _ _ _ _ _).trans rfl
theorem FixedBits.srli16U (rd rs1 : Reg) (imm : BitVec 4) : FixedBits.Statement (.srli16U rd rs1 imm) :=
  (fixed_imm4 _ _ _ _ _ _ _).trans rfl
theorem FixedBits.sll16 (rd rs1 rs2 : Reg) : FixedBits.Statement (.sll16 rd rs1 rs2) :=
  (fixed_funct _ _ _ _ _ _).trans rfl
theorem FixedBits.slli16 (rd rs1 : Reg) (imm : BitVec 4) : FixedBits.Statement (.slli16 rd rs1 imm) :=
  (fixed_imm4 _ _ _ _ _ _ _).trans rfl
theorem FixedBits.ksll16 (rd rs1 rs2 : Reg) : FixedBits.Statement (.ksll16 rd rs1 rs2) :=
  (fixed_funct _ _ _ _ _ _).trans rfl
theorem FixedBits.kslli16 (rd rs1 : Reg) (imm : BitVec 4) : FixedBits.Statement (.kslli16 rd rs1 imm) :=
  (fixed_imm4 _ _ _ _ _ _ _).trans rfl
theorem FixedBits.kslra16 (rd rs1 rs2 : Reg) : FixedBits.Statement (.kslra16 rd rs1 rs2) :=
  (fixed_funct _ _ _ _ _ _).trans rfl
theorem FixedBits.kslra16U (rd rs1 rs2 : Reg) : FixedBits.Statement (.kslra16U rd rs1 rs2) :=
  (fixed_funct _ _ _ _ _ _).trans rfl
theorem FixedBits.sra8 (rd rs1 rs2 : Reg) : FixedBits.Statement (.sra8 rd rs1 rs2) :=
  (fixed_funct _ _ _ _ _ _).trans rfl
theorem FixedBits.srai8 (rd rs1 : Reg) (imm : BitVec 3) : FixedBits.Statement (.srai8 rd rs1 imm) :=
  (fixed_imm3 _ _ _ _ _ _ _).trans rfl
theorem FixedBits.sra8U (rd rs1 rs2 : Reg) : FixedBits.Statement (.sra8U rd rs1 rs2) :=
  (fixed_funct _ _ _ _ _ _).trans rfl
theorem FixedBits.srai8U (rd rs1 : Reg) (imm : BitVec 3) : FixedBits.Statement (.srai8U rd rs1 imm) :=
  (fixed_imm3 _ _ _ _ _ _ _).trans rfl
theorem FixedBits.srl8 (rd rs1 rs2 : Reg) : FixedBits.Statement (.srl8 rd rs1 rs2) :=
  (fixed_funct _ _ _ _ _ _).trans rfl
theorem FixedBits.srli8 (rd rs1 : Reg) (imm : BitVec 3) : FixedBits.Statement (.srli8 rd rs1 imm) :=
  (fixed_imm3 _ _ _ _ _ _ _).trans rfl
theorem FixedBits.srl8U (rd rs1 rs2 : Reg) : FixedBits.Statement (.srl8U rd rs1 rs2) :=
  (fixed_funct _ _ _ _ _ _).trans rfl
theorem FixedBits.srli8U (rd rs1 : Reg) (imm : BitVec 3) : FixedBits.Statement (.srli8U rd rs1 imm) :=
  (fixed_imm3 _ _ _ _ _ _ _).trans rfl
theorem FixedBits.sll8 (rd rs1 rs2 : Reg) : FixedBits.Statement (.sll8 rd rs1 rs2) :=
  (fixed_funct _ _ _ _ _ _).trans rfl
theorem FixedBits.slli8 (rd rs1 : Reg) (imm : BitVec 3) : FixedBits.Statement (.slli8 rd rs1 imm) :=
  (fixed_imm3 _ _ _ _ _ _ _).trans rfl
theorem FixedBits.ksll8 (rd rs1 rs2 : Reg) : FixedBits.Statement (.ksll8 rd rs1 rs2) :=
  (fixed_funct _ _ _ _ _ _).trans rfl
theorem FixedBits.kslli8 (rd rs1 : Reg) (imm : BitVec 3) : FixedBits.Statement (.kslli8 rd rs1 imm) :=
  (fixed_imm3 _ _ _ _ _ _ _).trans rfl
theorem FixedBits.kslra8 (rd rs1 rs2 : Reg) : FixedBits.Statement (.kslra8 rd rs1 rs2) :=
  (fixed_funct _ _ _ _ _ _).trans rfl
theorem FixedBits.kslra8U (rd rs1 rs2 : Reg) : FixedBits.Statement (.kslra8U rd rs1 rs2) :=
  (fixed_funct _ _ _ _ _ _).trans rfl
theorem FixedBits.cmpeq16 (rd rs1 rs2 : Reg) : FixedBits.Statement (.cmpeq16 rd rs1 rs2) :=
  (fixed_funct _ _ _ _ _ _).trans rfl
theorem FixedBits.scmplt16 (rd rs1 rs2 : Reg) : FixedBits.Statement (.scmplt16 rd rs1 rs2) :=
  (fixed_funct _ _ _ _ _ _).trans rfl
theorem FixedBits.scmple16 (rd rs1 rs2 : Reg) : FixedBits.Statement (.scmple16 rd rs1 rs2) :=
  (fixed_funct _ _ _ _ _ _).trans rfl
theorem FixedBits.ucmplt16 (rd rs1 rs2 : Reg) : FixedBits.Statement (.ucmplt16 rd rs1 rs2) :=
  (fixed_funct _ _ _ _ _ _).trans rfl
theorem FixedBits.ucmple16 (rd rs1 rs2 : Reg) : FixedBits.Statement (.ucmple16 rd rs1 rs2) :=
  (fixed_funct _ _ _ _ _ _).trans rfl
theorem FixedBits.cmpeq8 (rd rs1 rs2 : Reg) : FixedBits.Statement (.cmpeq8 rd rs1 rs2) :=
  (fixed_funct _ _ _ _ _ _).trans rfl
theorem FixedBits.scmplt8 (rd rs1 rs2 : Reg) : FixedBits.Statement (.scmplt8 rd rs1 rs2) :=
  (fixed_funct _ _ _ _ _ _).trans rfl
theorem FixedBits.scmple8 (rd rs1 rs2 : Reg) : FixedBits.Statement (.scmple8 rd rs1 rs2) :=
  (fixed_funct _ _ _ _ _ _).trans rfl
theorem FixedBits.ucmplt8 (rd rs1 rs2 : Reg) : FixedBits.Statement (.ucmplt8 rd rs1 rs2) :=
  (fixed_funct _ _ _ _ _ _).trans rfl
theorem FixedBits.ucmple8 (rd rs1 rs2 : Reg) : FixedBits.Statement (.ucmple8 rd rs1 rs2) :=
  (fixed_funct _ _ _ _ _ _).trans rfl
theorem FixedBits.smin16 (rd rs1 rs2 : Reg) : FixedBits.Statement (.smin16 rd rs1 rs2) :=
  (fixed_funct _ _ _ _ _ _).trans rfl
theorem FixedBits.umin16 (rd rs1 rs2 : Reg) : FixedBits.Statement (.umin16 rd rs1 rs2) :=
  (fixed_funct _ _ _ _ _ _).trans rfl
theorem FixedBits.smax16 (rd rs1 rs2 : Reg) : FixedBits.Statement (.smax16 rd rs1 rs2) :=
  (fixed_funct _ _ _ _ _ _).trans rfl
theorem FixedBits.umax16 (rd rs1 rs2 : Reg) : FixedBits.Statement (.umax16 rd rs1 rs2) :=
  (fixed_funct _ _ _ _ _ _).trans rfl
theorem FixedBits.sclip16 (rd rs1 : Reg) (imm : BitVec 4) : FixedBits.Statement (.sclip16 rd rs1 imm) :=
  (fixed_imm4 _ _ _ _ _ _ _).trans rfl
theorem FixedBits.uclip16 (rd rs1 : Reg) (imm : BitVec 4) : FixedBits.Statement (.uclip16 rd rs1 imm) :=
  (fixed_imm4 _ _ _ _ _ _ _).trans rfl
theorem FixedBits.kabs16 (rd rs1 : Reg) : FixedBits.Statement (.kabs16 rd rs1) := (fixed_oneop _ _ _ _ _ _).trans rfl
theorem FixedBits.clrs16 (rd rs1 : Reg) : FixedBits.Statement (.clrs16 rd rs1) := (fixed_oneop _ _ _ _ _ _).trans rfl
theorem FixedBits.clz16 (rd rs1 : Reg) : FixedBits.Statement (.clz16 rd rs1) := (fixed_oneop _ _ _ _ _ _).trans rfl
theorem FixedBits.swap16 (rd rs1 : Reg) : FixedBits.Statement (.swap16 rd rs1) := (fixed_funct _ _ _ _ _ _).trans rfl
theorem FixedBits.smin8 (rd rs1 rs2 : Reg) : FixedBits.Statement (.smin8 rd rs1 rs2) :=
  (fixed_funct _ _ _ _ _ _).trans rfl
theorem FixedBits.umin8 (rd rs1 rs2 : Reg) : FixedBits.Statement (.umin8 rd rs1 rs2) :=
  (fixed_funct _ _ _ _ _ _).trans rfl
theorem FixedBits.smax8 (rd rs1 rs2 : Reg) : FixedBits.Statement (.smax8 rd rs1 rs2) :=
  (fixed_funct _ _ _ _ _ _).trans rfl
theorem FixedBits.umax8 (rd rs1 rs2 : Reg) : FixedBits.Statement (.umax8 rd rs1 rs2) :=
  (fixed_funct _ _ _ _ _ _).trans rfl
theorem FixedBits.kabs8 (rd rs1 : Reg) : FixedBits.Statement (.kabs8 rd rs1) := (fixed_oneop _ _ _ _ _ _).trans rfl
theorem FixedBits.sclip8 (rd rs1 : Reg) (imm : BitVec 3) : FixedBits.Statement (.sclip8 rd rs1 imm) :=
  (fixed_imm3 _ _ _ _ _ _ _).trans rfl
theorem FixedBits.uclip8 (rd rs1 : Reg) (imm : BitVec 3) : FixedBits.Statement (.uclip8 rd rs1 imm) :=
  (fixed_imm3 _ _ _ _ _ _ _).trans rfl
theorem FixedBits.clrs8 (rd rs1 : Reg) : FixedBits.Statement (.clrs8 rd rs1) := (fixed_oneop _ _ _ _ _ _).trans rfl
theorem FixedBits.clz8 (rd rs1 : Reg) : FixedBits.Statement (.clz8 rd rs1) := (fixed_oneop _ _ _ _ _ _).trans rfl
theorem FixedBits.swap8 (rd rs1 : Reg) : FixedBits.Statement (.swap8 rd rs1) := (fixed_oneop _ _ _ _ _ _).trans rfl
theorem FixedBits.sunpkd810 (rd rs1 : Reg) : FixedBits.Statement (.sunpkd810 rd rs1) :=
  (fixed_oneop _ _ _ _ _ _).trans rfl
theorem FixedBits.sunpkd820 (rd rs1 : Reg) : FixedBits.Statement (.sunpkd820 rd rs1) :=
  (fixed_oneop _ _ _ _ _ _).trans rfl
theorem FixedBits.sunpkd830 (rd rs1 : Reg) : FixedBits.Statement (.sunpkd830 rd rs1) :=
  (fixed_oneop _ _ _ _ _ _).trans rfl
theorem FixedBits.sunpkd831 (rd rs1 : Reg) : FixedBits.Statement (.sunpkd831 rd rs1) :=
  (fixed_oneop _ _ _ _ _ _).trans rfl
theorem FixedBits.sunpkd832 (rd rs1 : Reg) : FixedBits.Statement (.sunpkd832 rd rs1) :=
  (fixed_oneop _ _ _ _ _ _).trans rfl
theorem FixedBits.zunpkd810 (rd rs1 : Reg) : FixedBits.Statement (.zunpkd810 rd rs1) :=
  (fixed_oneop _ _ _ _ _ _).trans rfl
theorem FixedBits.zunpkd820 (rd rs1 : Reg) : FixedBits.Statement (.zunpkd820 rd rs1) :=
  (fixed_oneop _ _ _ _ _ _).trans rfl
theorem FixedBits.zunpkd830 (rd rs1 : Reg) : FixedBits.Statement (.zunpkd830 rd rs1) :=
  (fixed_oneop _ _ _ _ _ _).trans rfl
theorem FixedBits.zunpkd831 (rd rs1 : Reg) : FixedBits.Statement (.zunpkd831 rd rs1) :=
  (fixed_oneop _ _ _ _ _ _).trans rfl
theorem FixedBits.zunpkd832 (rd rs1 : Reg) : FixedBits.Statement (.zunpkd832 rd rs1) :=
  (fixed_oneop _ _ _ _ _ _).trans rfl
theorem FixedBits.smul16 (rd rs1 rs2 : Reg) : FixedBits.Statement (.smul16 rd rs1 rs2) :=
  (fixed_funct _ _ _ _ _ _).trans rfl
theorem FixedBits.smulx16 (rd rs1 rs2 : Reg) : FixedBits.Statement (.smulx16 rd rs1 rs2) :=
  (fixed_funct _ _ _ _ _ _).trans rfl
theorem FixedBits.umul16 (rd rs1 rs2 : Reg) : FixedBits.Statement (.umul16 rd rs1 rs2) :=
  (fixed_funct _ _ _ _ _ _).trans rfl
theorem FixedBits.umulx16 (rd rs1 rs2 : Reg) : FixedBits.Statement (.umulx16 rd rs1 rs2) :=
  (fixed_funct _ _ _ _ _ _).trans rfl
theorem FixedBits.khm16 (rd rs1 rs2 : Reg) : FixedBits.Statement (.khm16 rd rs1 rs2) :=
  (fixed_funct _ _ _ _ _ _).trans rfl
theorem FixedBits.khmx16 (rd rs1 rs2 : Reg) : FixedBits.Statement (.khmx16 rd rs1 rs2) :=
  (fixed_funct _ _ _ _ _ _).trans rfl
theorem FixedBits.smul8 (rd rs1 rs2 : Reg) : FixedBits.Statement (.smul8 rd rs1 rs2) :=
  (fixed_funct _ _ _ _ _ _).trans rfl
theorem FixedBits.smulx8 (rd rs1 rs2 : Reg) : FixedBits.Statement (.smulx8 rd rs1 rs2) :=
  (fixed_funct _ _ _ _ _ _).trans rfl
theorem FixedBits.umul8 (rd rs1 rs2 : Reg) : FixedBits.Statement (.umul8 rd rs1 rs2) :=
  (fixed_funct _ _ _ _ _ _).trans rfl
theorem FixedBits.umulx8 (rd rs1 rs2 : Reg) : FixedBits.Statement (.umulx8 rd rs1 rs2) :=
  (fixed_funct _ _ _ _ _ _).trans rfl
theorem FixedBits.khm8 (rd rs1 rs2 : Reg) : FixedBits.Statement (.khm8 rd rs1 rs2) :=
  (fixed_funct _ _ _ _ _ _).trans rfl
theorem FixedBits.khmx8 (rd rs1 rs2 : Reg) : FixedBits.Statement (.khmx8 rd rs1 rs2) :=
  (fixed_funct _ _ _ _ _ _).trans rfl
theorem FixedBits.pkbb16 (rd rs1 rs2 : Reg) : FixedBits.Statement (.pkbb16 rd rs1 rs2) :=
  (fixed_funct _ _ _ _ _ _).trans rfl
theorem FixedBits.pkbt16 (rd rs1 rs2 : Reg) : FixedBits.Statement (.pkbt16 rd rs1 rs2) :=
  (fixed_funct _ _ _ _ _ _).trans rfl
theorem FixedBits.pktt16 (rd rs1 rs2 : Reg) : FixedBits.Statement (.pktt16 rd rs1 rs2) :=
  (fixed_funct _ _ _ _ _ _).trans rfl
theorem FixedBits.pktb16 (rd rs1 rs2 : Reg) : FixedBits.Statement (.pktb16 rd rs1 rs2) :=
  (fixed_funct _ _ _ _ _ _).trans rfl
theorem FixedBits.smmul (rd rs1 rs2 : Reg) : FixedBits.Statement (.smmul rd rs1 rs2) :=
  (fixed_funct _ _ _ _ _ _).trans rfl
theorem FixedBits.smmulRv32 (rd rs1 rs2 : Reg) : FixedBits.Statement (.smmulRv32 rd rs1 rs2) :=
  (fixed_funct _ _ _ _ _ _).trans rfl
theorem FixedBits.smmulU (rd rs1 rs2 : Reg) : FixedBits.Statement (.smmulU rd rs1 rs2) :=
  (fixed_funct _ _ _ _ _ _).trans rfl
theorem FixedBits.kmmac (rd rs1 rs2 : Reg) : FixedBits.Statement (.kmmac rd rs1 rs2) :=
  (fixed_funct _ _ _ _ _ _).trans rfl
theorem FixedBits.kmmacU (rd rs1 rs2 : Reg) : FixedBits.Statement (.kmmacU rd rs1 rs2) :=
  (fixed_funct _ _ _ _ _ _).trans rfl
theorem FixedBits.kmmsb (rd rs1 rs2 : Reg) : FixedBits.Statement (.kmmsb rd rs1 rs2) :=
  (fixed_funct _ _ _ _ _ _).trans rfl
theorem FixedBits.kmmsbU (rd rs1 rs2 : Reg) : FixedBits.Statement (.kmmsbU rd rs1 rs2) :=
  (fixed_funct _ _ _ _ _ _).trans rfl
theorem FixedBits.kwmmul (rd rs1 rs2 : Reg) : FixedBits.Statement (.kwmmul rd rs1 rs2) :=
  (fixed_funct _ _ _ _ _ _).trans rfl
theorem FixedBits.kwmmulU (rd rs1 rs2 : Reg) : FixedBits.Statement (.kwmmulU rd rs1 rs2) :=
  (fixed_funct _ _ _ _ _ _).trans rfl
theorem FixedBits.smmwb (rd rs1 rs2 : Reg) : FixedBits.Statement (.smmwb rd rs1 rs2) :=
  (fixed_funct _ _ _ _ _ _).trans rfl
theorem FixedBits.smmwbU (rd rs1 rs2 : Reg) : FixedBits.Statement (.smmwbU rd rs1 rs2) :=
  (fixed_funct _ _ _ _ _ _).trans rfl
theorem FixedBits.smmwt (rd rs1 rs2 : Reg) : FixedBits.Statement (.smmwt rd rs1 rs2) :=
  (fixed_funct _ _ _ _ _ _).trans rfl
theorem FixedBits.smmwtU (rd rs1 rs2 : Reg) : FixedBits.Statement (.smmwtU rd rs1 rs2) :=
  (fixed_funct _ _ _ _ _ _).trans rfl
theorem FixedBits.kmmawb (rd rs1 rs2 : Reg) : FixedBits.Statement (.kmmawb rd rs1 rs2) :=
  (fixed_funct _ _ _ _ _ _).trans rfl
theorem FixedBits.kmmawbU (rd rs1 rs2 : Reg) : FixedBits.Statement (.kmmawbU rd rs1 rs2) :=
  (fixed_funct _ _ _ _ _ _).trans rfl
theorem FixedBits.kmmawt (rd rs1 rs2 : Reg) : FixedBits.Statement (.kmmawt rd rs1 rs2) :=
  (fixed_funct _ _ _ _ _ _).trans rfl
theorem FixedBits.kmmawtU (rd rs1 rs2 : Reg) : FixedBits.Statement (.kmmawtU rd rs1 rs2) :=
  (fixed_funct _ _ _ _ _ _).trans rfl
theorem FixedBits.kmmwb2 (rd rs1 rs2 : Reg) : FixedBits.Statement (.kmmwb2 rd rs1 rs2) :=
  (fixed_funct _ _ _ _ _ _).trans rfl
theorem FixedBits.kmmwb2U (rd rs1 rs2 : Reg) : FixedBits.Statement (.kmmwb2U rd rs1 rs2) :=
  (fixed_funct _ _ _ _ _ _).trans rfl
theorem FixedBits.kmmwt2 (rd rs1 rs2 : Reg) : FixedBits.Statement (.kmmwt2 rd rs1 rs2) :=
  (fixed_funct _ _ _ _ _ _).trans rfl
theorem FixedBits.kmmwt2U (rd rs1 rs2 : Reg) : FixedBits.Statement (.kmmwt2U rd rs1 rs2) :=
  (fixed_funct _ _ _ _ _ _).trans rfl
theorem FixedBits.kmmawb2 (rd rs1 rs2 : Reg) : FixedBits.Statement (.kmmawb2 rd rs1 rs2) :=
  (fixed_funct _ _ _ _ _ _).trans rfl
theorem FixedBits.kmmawb2U (rd rs1 rs2 : Reg) : FixedBits.Statement (.kmmawb2U rd rs1 rs2) :=
  (fixed_funct _ _ _ _ _ _).trans rfl
theorem FixedBits.kmmawt2 (rd rs1 rs2 : Reg) : FixedBits.Statement (.kmmawt2 rd rs1 rs2) :=
  (fixed_funct _ _ _ _ _ _).trans rfl
theorem FixedBits.kmmawt2U (rd rs1 rs2 : Reg) : FixedBits.Statement (.kmmawt2U rd rs1 rs2) :=
  (fixed_funct _ _ _ _ _ _).trans rfl
theorem FixedBits.smbb16 (rd rs1 rs2 : Reg) : FixedBits.Statement (.smbb16 rd rs1 rs2) :=
  (fixed_funct _ _ _ _ _ _).trans rfl
theorem FixedBits.smbt16 (rd rs1 rs2 : Reg) : FixedBits.Statement (.smbt16 rd rs1 rs2) :=
  (fixed_funct _ _ _ _ _ _).trans rfl
theorem FixedBits.smtt16 (rd rs1 rs2 : Reg) : FixedBits.Statement (.smtt16 rd rs1 rs2) :=
  (fixed_funct _ _ _ _ _ _).trans rfl
theorem FixedBits.kmda (rd rs1 rs2 : Reg) : FixedBits.Statement (.kmda rd rs1 rs2) :=
  (fixed_funct _ _ _ _ _ _).trans rfl
theorem FixedBits.kmxda (rd rs1 rs2 : Reg) : FixedBits.Statement (.kmxda rd rs1 rs2) :=
  (fixed_funct _ _ _ _ _ _).trans rfl
theorem FixedBits.smds (rd rs1 rs2 : Reg) : FixedBits.Statement (.smds rd rs1 rs2) :=
  (fixed_funct _ _ _ _ _ _).trans rfl
theorem FixedBits.smdrs (rd rs1 rs2 : Reg) : FixedBits.Statement (.smdrs rd rs1 rs2) :=
  (fixed_funct _ _ _ _ _ _).trans rfl
theorem FixedBits.smxds (rd rs1 rs2 : Reg) : FixedBits.Statement (.smxds rd rs1 rs2) :=
  (fixed_funct _ _ _ _ _ _).trans rfl
theorem FixedBits.kmabb (rd rs1 rs2 : Reg) : FixedBits.Statement (.kmabb rd rs1 rs2) :=
  (fixed_funct _ _ _ _ _ _).trans rfl
theorem FixedBits.kmabt (rd rs1 rs2 : Reg) : FixedBits.Statement (.kmabt rd rs1 rs2) :=
  (fixed_funct _ _ _ _ _ _).trans rfl
theorem FixedBits.kmatt (rd rs1 rs2 : Reg) : FixedBits.Statement (.kmatt rd rs1 rs2) :=
  (fixed_funct _ _ _ _ _ _).trans rfl
theorem FixedBits.kmada (rd rs1 rs2 : Reg) : FixedBits.Statement (.kmada rd rs1 rs2) :=
  (fixed_funct _ _ _ _ _ _).trans rfl
theorem FixedBits.kmaxda (rd rs1 rs2 : Reg) : FixedBits.Statement (.kmaxda rd rs1 rs2) :=
  (fixed_funct _ _ _ _ _ _).trans rfl
theorem FixedBits.kmads (rd rs1 rs2 : Reg) : FixedBits.Statement (.kmads rd rs1 rs2) :=
  (fixed_funct _ _ _ _ _ _).trans rfl
theorem FixedBits.kmadrs (rd rs1 rs2 : Reg) : FixedBits.Statement (.kmadrs rd rs1 rs2) :=
  (fixed_funct _ _ _ _ _ _).trans rfl
theorem FixedBits.kmaxds (rd rs1 rs2 : Reg) : FixedBits.Statement (.kmaxds rd rs1 rs2) :=
  (fixed_funct _ _ _ _ _ _).trans rfl
theorem FixedBits.kmsda (rd rs1 rs2 : Reg) : FixedBits.Statement (.kmsda rd rs1 rs2) :=
  (fixed_funct _ _ _ _ _ _).trans rfl
theorem FixedBits.kmsxda (rd rs1 rs2 : Reg) : FixedBits.Statement (.kmsxda rd rs1 rs2) :=
  (fixed_funct _ _ _ _ _ _).trans rfl
theorem FixedBits.smal (rd rs1 rs2 : Reg) : FixedBits.Statement (.smal rd rs1 rs2) :=
  (fixed_funct _ _ _ _ _ _).trans rfl
theorem FixedBits.sclip32 (rd rs1 : Reg) (imm : BitVec 5) : FixedBits.Statement (.sclip32 rd rs1 imm) :=
  (fixed_funct _ _ _ _ _ _).trans rfl
theorem FixedBits.uclip32 (rd rs1 : Reg) (imm : BitVec 5) : FixedBits.Statement (.uclip32 rd rs1 imm) :=
  (fixed_funct _ _ _ _ _ _).trans rfl
theorem FixedBits.clrs32 (rd rs1 : Reg) : FixedBits.Statement (.clrs32 rd rs1) := (fixed_oneop _ _ _ _ _ _).trans rfl
theorem FixedBits.clz32 (rd rs1 : Reg) : FixedBits.Statement (.clz32 rd rs1) := (fixed_oneop _ _ _ _ _ _).trans rfl
theorem FixedBits.pbsad (rd rs1 rs2 : Reg) : FixedBits.Statement (.pbsad rd rs1 rs2) :=
  (fixed_funct _ _ _ _ _ _).trans rfl
theorem FixedBits.pbsada (rd rs1 rs2 : Reg) : FixedBits.Statement (.pbsada rd rs1 rs2) :=
  (fixed_funct _ _ _ _ _ _).trans rfl
theorem FixedBits.smaqa (rd rs1 rs2 : Reg) : FixedBits.Statement (.smaqa rd rs1 rs2) :=
  (fixed_funct _ _ _ _ _ _).trans rfl
theorem FixedBits.umaqa (rd rs1 rs2 : Reg) : FixedBits.Statement (.umaqa rd rs1 rs2) :=
  (fixed_funct _ _ _ _ _ _).trans rfl
theorem FixedBits.smaqaSu (rd rs1 rs2 : Reg) : FixedBits.Statement (.smaqaSu rd rs1 rs2) :=
  (fixed_funct _ _ _ _ _ _).trans rfl
theorem FixedBits.add64 (rd rs1 rs2 : Reg) : FixedBits.Statement (.add64 rd rs1 rs2) :=
  (fixed_funct _ _ _ _ _ _).trans rfl
theorem FixedBits.radd64 (rd rs1 rs2 : Reg) : FixedBits.Statement (.radd64 rd rs1 rs2) :=
  (fixed_funct _ _ _ _ _ _).trans rfl
theorem FixedBits.uradd64 (rd rs1 rs2 : Reg) : FixedBits.Statement (.uradd64 rd rs1 rs2) :=
  (fixed_funct _ _ _ _ _ _).trans rfl
theorem FixedBits.kadd64 (rd rs1 rs2 : Reg) : FixedBits.Statement (.kadd64 rd rs1 rs2) :=
  (fixed_funct _ _ _ _ _ _).trans rfl
theorem FixedBits.ukadd64 (rd rs1 rs2 : Reg) : FixedBits.Statement (.ukadd64 rd rs1 rs2) :=
  (fixed_funct _ _ _ _ _ _).trans rfl
theorem FixedBits.sub64 (rd rs1 rs2 : Reg) : FixedBits.Statement (.sub64 rd rs1 rs2) :=
  (fixed_funct _ _ _ _ _ _).trans rfl
theorem FixedBits.rsub64 (rd rs1 rs2 : Reg) : FixedBits.Statement (.rsub64 rd rs1 rs2) :=
  (fixed_funct _ _ _ _ _ _).trans rfl
theorem FixedBits.ursub64 (rd rs1 rs2 : Reg) : FixedBits.Statement (.ursub64 rd rs1 rs2) :=
  (fixed_funct _ _ _ _ _ _).trans rfl
theorem FixedBits.ksub64 (rd rs1 rs2 : Reg) : FixedBits.Statement (.ksub64 rd rs1 rs2) :=
  (fixed_funct _ _ _ _ _ _).trans rfl
theorem FixedBits.uksub64 (rd rs1 rs2 : Reg) : FixedBits.Statement (.uksub64 rd rs1 rs2) :=
  (fixed_funct _ _ _ _ _ _).trans rfl
theorem FixedBits.smar64 (rd rs1 rs2 : Reg) : FixedBits.Statement (.smar64 rd rs1 rs2) :=
  (fixed_funct _ _ _ _ _ _).trans rfl
theorem FixedBits.smsr64 (rd rs1 rs2 : Reg) : FixedBits.Statement (.smsr64 rd rs1 rs2) :=
  (fixed_funct _ _ _ _ _ _).trans rfl
theorem FixedBits.umar64 (rd rs1 rs2 : Reg) : FixedBits.Statement (.umar64 rd rs1 rs2) :=
  (fixed_funct _ _ _ _ _ _).trans rfl
theorem FixedBits.umsr64 (rd rs1 rs2 : Reg) : FixedBits.Statement (.umsr64 rd rs1 rs2) :=
  (fixed_funct _ _ _ _ _ _).trans rfl
theorem FixedBits.kmar64 (rd rs1 rs2 : Reg) : FixedBits.Statement (.kmar64 rd rs1 rs2) :=
  (fixed_funct _ _ _ _ _ _).trans rfl
theorem FixedBits.kmsr64 (rd rs1 rs2 : Reg) : FixedBits.Statement (.kmsr64 rd rs1 rs2) :=
  (fixed_funct _ _ _ _ _ _).trans rfl
theorem FixedBits.ukmar64 (rd rs1 rs2 : Reg) : FixedBits.Statement (.ukmar64 rd rs1 rs2) :=
  (fixed_funct _ _ _ _ _ _).trans rfl
theorem FixedBits.ukmsr64 (rd rs1 rs2 : Reg) : FixedBits.Statement (.ukmsr64 rd rs1 rs2) :=
  (fixed_funct _ _ _ _ _ _).trans rfl
theorem FixedBits.smalbb (rd rs1 rs2 : Reg) : FixedBits.Statement (.smalbb rd rs1 rs2) :=
  (fixed_funct _ _ _ _ _ _).trans rfl
theorem FixedBits.smalbt (rd rs1 rs2 : Reg) : FixedBits.Statement (.smalbt rd rs1 rs2) :=
  (fixed_funct _ _ _ _ _ _).trans rfl
theorem FixedBits.smaltt (rd rs1 rs2 : Reg) : FixedBits.Statement (.smaltt rd rs1 rs2) :=
  (fixed_funct _ _ _ _ _ _).trans rfl
theorem FixedBits.smalda (rd rs1 rs2 : Reg) : FixedBits.Statement (.smalda rd rs1 rs2) :=
  (fixed_funct _ _ _ _ _ _).trans rfl
theorem FixedBits.smalxda (rd rs1 rs2 : Reg) : FixedBits.Statement (.smalxda rd rs1 rs2) :=
  (fixed_funct _ _ _ _ _ _).trans rfl
theorem FixedBits.smalds (rd rs1 rs2 : Reg) : FixedBits.Statement (.smalds rd rs1 rs2) :=
  (fixed_funct _ _ _ _ _ _).trans rfl
theorem FixedBits.smaldrs (rd rs1 rs2 : Reg) : FixedBits.Statement (.smaldrs rd rs1 rs2) :=
  (fixed_funct _ _ _ _ _ _).trans rfl
theorem FixedBits.smalxds (rd rs1 rs2 : Reg) : FixedBits.Statement (.smalxds rd rs1 rs2) :=
  (fixed_funct _ _ _ _ _ _).trans rfl
theorem FixedBits.smslda (rd rs1 rs2 : Reg) : FixedBits.Statement (.smslda rd rs1 rs2) :=
  (fixed_funct _ _ _ _ _ _).trans rfl
theorem FixedBits.smslxda (rd rs1 rs2 : Reg) : FixedBits.Statement (.smslxda rd rs1 rs2) :=
  (fixed_funct _ _ _ _ _ _).trans rfl
theorem FixedBits.kaddh (rd rs1 rs2 : Reg) : FixedBits.Statement (.kaddh rd rs1 rs2) :=
  (fixed_funct _ _ _ _ _ _).trans rfl
theorem FixedBits.ksubh (rd rs1 rs2 : Reg) : FixedBits.Statement (.ksubh rd rs1 rs2) :=
  (fixed_funct _ _ _ _ _ _).trans rfl
theorem FixedBits.ukaddh (rd rs1 rs2 : Reg) : FixedBits.Statement (.ukaddh rd rs1 rs2) :=
  (fixed_funct _ _ _ _ _ _).trans rfl
theorem FixedBits.uksubh (rd rs1 rs2 : Reg) : FixedBits.Statement (.uksubh rd rs1 rs2) :=
  (fixed_funct _ _ _ _ _ _).trans rfl
theorem FixedBits.khmbb (rd rs1 rs2 : Reg) : FixedBits.Statement (.khmbb rd rs1 rs2) :=
  (fixed_funct _ _ _ _ _ _).trans rfl
theorem FixedBits.khmbt (rd rs1 rs2 : Reg) : FixedBits.Statement (.khmbt rd rs1 rs2) :=
  (fixed_funct _ _ _ _ _ _).trans rfl
theorem FixedBits.khmtt (rd rs1 rs2 : Reg) : FixedBits.Statement (.khmtt rd rs1 rs2) :=
  (fixed_funct _ _ _ _ _ _).trans rfl
theorem FixedBits.kaddw (rd rs1 rs2 : Reg) : FixedBits.Statement (.kaddw rd rs1 rs2) :=
  (fixed_funct _ _ _ _ _ _).trans rfl
theorem FixedBits.ukaddw (rd rs1 rs2 : Reg) : FixedBits.Statement (.ukaddw rd rs1 rs2) :=
  (fixed_funct _ _ _ _ _ _).trans rfl
theorem FixedBits.ksubw (rd rs1 rs2 : Reg) : FixedBits.Statement (.ksubw rd rs1 rs2) :=
  (fixed_funct _ _ _ _ _ _).trans rfl
theorem FixedBits.uksubw (rd rs1 rs2 : Reg) : FixedBits.Statement (.uksubw rd rs1 rs2) :=
  (fixed_funct _ _ _ _ _ _).trans rfl
theorem FixedBits.kdmbb (rd rs1 rs2 : Reg) : FixedBits.Statement (.kdmbb rd rs1 rs2) :=
  (fixed_funct _ _ _ _ _ _).trans rfl
theorem FixedBits.kdmbt (rd rs1 rs2 : Reg) : FixedBits.Statement (.kdmbt rd rs1 rs2) :=
  (fixed_funct _ _ _ _ _ _).trans rfl
theorem FixedBits.kdmtt (rd rs1 rs2 : Reg) : FixedBits.Statement (.kdmtt rd rs1 rs2) :=
  (fixed_funct _ _ _ _ _ _).trans rfl
theorem FixedBits.kslraw (rd rs1 rs2 : Reg) : FixedBits.Statement (.kslraw rd rs1 rs2) :=
  (fixed_funct _ _ _ _ _ _).trans rfl
theorem FixedBits.kslrawU (rd rs1 rs2 : Reg) : FixedBits.Statement (.kslrawU rd rs1 rs2) :=
  (fixed_funct _ _ _ _ _ _).trans rfl
theorem FixedBits.ksllw (rd rs1 rs2 : Reg) : FixedBits.Statement (.ksllw rd rs1 rs2) :=
  (fixed_funct _ _ _ _ _ _).trans rfl
theorem FixedBits.kslliw (rd rs1 : Reg) (imm : BitVec 5) : FixedBits.Statement (.kslliw rd rs1 imm) :=
  (fixed_funct _ _ _ _ _ _).trans rfl
theorem FixedBits.kdmabb (rd rs1 rs2 : Reg) : FixedBits.Statement (.kdmabb rd rs1 rs2) :=
  (fixed_funct _ _ _ _ _ _).trans rfl
theorem FixedBits.kdmabt (rd rs1 rs2 : Reg) : FixedBits.Statement (.kdmabt rd rs1 rs2) :=
  (fixed_funct _ _ _ _ _ _).trans rfl
theorem FixedBits.kdmatt (rd rs1 rs2 : Reg) : FixedBits.Statement (.kdmatt rd rs1 rs2) :=
  (fixed_funct _ _ _ _ _ _).trans rfl
theorem FixedBits.kabsw (rd rs1 : Reg) : FixedBits.Statement (.kabsw rd rs1) := (fixed_oneop _ _ _ _ _ _).trans rfl
theorem FixedBits.raddw (rd rs1 rs2 : Reg) : FixedBits.Statement (.raddw rd rs1 rs2) :=
  (fixed_funct _ _ _ _ _ _).trans rfl
theorem FixedBits.uraddw (rd rs1 rs2 : Reg) : FixedBits.Statement (.uraddw rd rs1 rs2) :=
  (fixed_funct _ _ _ _ _ _).trans rfl
theorem FixedBits.rsubw (rd rs1 rs2 : Reg) : FixedBits.Statement (.rsubw rd rs1 rs2) :=
  (fixed_funct _ _ _ _ _ _).trans rfl
theorem FixedBits.ursubw (rd rs1 rs2 : Reg) : FixedBits.Statement (.ursubw rd rs1 rs2) :=
  (fixed_funct _ _ _ _ _ _).trans rfl
theorem FixedBits.mulr64 (rd rs1 rs2 : Reg) : FixedBits.Statement (.mulr64 rd rs1 rs2) :=
  (fixed_funct _ _ _ _ _ _).trans rfl
theorem FixedBits.mulsr64 (rd rs1 rs2 : Reg) : FixedBits.Statement (.mulsr64 rd rs1 rs2) :=
  (fixed_funct _ _ _ _ _ _).trans rfl
theorem FixedBits.msubr32 (rd rs1 rs2 : Reg) : FixedBits.Statement (.msubr32 rd rs1 rs2) :=
  (fixed_funct _ _ _ _ _ _).trans rfl
theorem FixedBits.ave (rd rs1 rs2 : Reg) : FixedBits.Statement (.ave rd rs1 rs2) := (fixed_funct _ _ _ _ _ _).trans rfl
theorem FixedBits.sraU (rd rs1 rs2 : Reg) : FixedBits.Statement (.sraU rd rs1 rs2) :=
  (fixed_funct _ _ _ _ _ _).trans rfl
theorem FixedBits.bitrev (rd rs1 rs2 : Reg) : FixedBits.Statement (.bitrev rd rs1 rs2) :=
  (fixed_funct _ _ _ _ _ _).trans rfl
theorem FixedBits.bitreviRv32 (rd rs1 : Reg) (imm : BitVec 5) : FixedBits.Statement (.bitreviRv32 rd rs1 imm) :=
  (fixed_funct _ _ _ _ _ _).trans rfl
theorem FixedBits.bitreviRv64 (rd rs1 : Reg) (imm : BitVec 6) : FixedBits.Statement (.bitreviRv64 rd rs1 imm) :=
  (fixed_imm6 _ _ _ _ _ _ _).trans rfl
theorem FixedBits.sraiURv32 (rd rs1 : Reg) (imm : BitVec 5) : FixedBits.Statement (.sraiURv32 rd rs1 imm) :=
  (fixed_funct _ _ _ _ _ _).trans rfl
theorem FixedBits.sraiURv64 (rd rs1 : Reg) (imm : BitVec 6) : FixedBits.Statement (.sraiURv64 rd rs1 imm) :=
  (fixed_imm6 _ _ _ _ _ _ _).trans rfl
theorem FixedBits.insbRv32 (rd rs1 : Reg) (imm : BitVec 2) : FixedBits.Statement (.insbRv32 rd rs1 imm) :=
  (fixed_imm2 _ _ _ _ _ _ _).trans rfl
theorem FixedBits.insbRv64 (rd rs1 : Reg) (imm : BitVec 3) : FixedBits.Statement (.insbRv64 rd rs1 imm) :=
  (fixed_imm3 _ _ _ _ _ _ _).trans rfl
theorem FixedBits.wext (rd rs1 rs2 : Reg) : FixedBits.Statement (.wext rd rs1 rs2) :=
  (fixed_funct _ _ _ _ _ _).trans rfl
theorem FixedBits.wexti (rd rs1 : Reg) (imm : BitVec 5) : FixedBits.Statement (.wexti rd rs1 imm) :=
  (fixed_funct _ _ _ _ _ _).trans rfl
theorem FixedBits.maddr32 (rd rs1 rs2 : Reg) : FixedBits.Statement (.maddr32 rd rs1 rs2) :=
  (fixed_funct _ _ _ _ _ _).trans rfl
theorem FixedBits.add32 (rd rs1 rs2 : Reg) : FixedBits.Statement (.add32 rd rs1 rs2) :=
  (fixed_funct _ _ _ _ _ _).trans rfl
theorem FixedBits.radd32 (rd rs1 rs2 : Reg) : FixedBits.Statement (.radd32 rd rs1 rs2) :=
  (fixed_funct _ _ _ _ _ _).trans rfl
theorem FixedBits.uradd32 (rd rs1 rs2 : Reg) : FixedBits.Statement (.uradd32 rd rs1 rs2) :=
  (fixed_funct _ _ _ _ _ _).trans rfl
theorem FixedBits.kadd32 (rd rs1 rs2 : Reg) : FixedBits.Statement (.kadd32 rd rs1 rs2) :=
  (fixed_funct _ _ _ _ _ _).trans rfl
theorem FixedBits.ukadd32 (rd rs1 rs2 : Reg) : FixedBits.Statement (.ukadd32 rd rs1 rs2) :=
  (fixed_funct _ _ _ _ _ _).trans rfl
theorem FixedBits.sub32 (rd rs1 rs2 : Reg) : FixedBits.Statement (.sub32 rd rs1 rs2) :=
  (fixed_funct _ _ _ _ _ _).trans rfl
theorem FixedBits.rsub32 (rd rs1 rs2 : Reg) : FixedBits.Statement (.rsub32 rd rs1 rs2) :=
  (fixed_funct _ _ _ _ _ _).trans rfl
theorem FixedBits.ursub32 (rd rs1 rs2 : Reg) : FixedBits.Statement (.ursub32 rd rs1 rs2) :=
  (fixed_funct _ _ _ _ _ _).trans rfl
theorem FixedBits.ksub32 (rd rs1 rs2 : Reg) : FixedBits.Statement (.ksub32 rd rs1 rs2) :=
  (fixed_funct _ _ _ _ _ _).trans rfl
theorem FixedBits.uksub32 (rd rs1 rs2 : Reg) : FixedBits.Statement (.uksub32 rd rs1 rs2) :=
  (fixed_funct _ _ _ _ _ _).trans rfl
theorem FixedBits.cras32 (rd rs1 rs2 : Reg) : FixedBits.Statement (.cras32 rd rs1 rs2) :=
  (fixed_funct _ _ _ _ _ _).trans rfl
theorem FixedBits.rcras32 (rd rs1 rs2 : Reg) : FixedBits.Statement (.rcras32 rd rs1 rs2) :=
  (fixed_funct _ _ _ _ _ _).trans rfl
theorem FixedBits.urcras32 (rd rs1 rs2 : Reg) : FixedBits.Statement (.urcras32 rd rs1 rs2) :=
  (fixed_funct _ _ _ _ _ _).trans rfl
theorem FixedBits.kcras32 (rd rs1 rs2 : Reg) : FixedBits.Statement (.kcras32 rd rs1 rs2) :=
  (fixed_funct _ _ _ _ _ _).trans rfl
theorem FixedBits.ukcras32 (rd rs1 rs2 : Reg) : FixedBits.Statement (.ukcras32 rd rs1 rs2) :=
  (fixed_funct _ _ _ _ _ _).trans rfl
theorem FixedBits.crsa32 (rd rs1 rs2 : Reg) : FixedBits.Statement (.crsa32 rd rs1 rs2) :=
  (fixed_funct _ _ _ _ _ _).trans rfl
theorem FixedBits.rcrsa32 (rd rs1 rs2 : Reg) : FixedBits.Statement (.rcrsa32 rd rs1 rs2) :=
  (fixed_funct _ _ _ _ _ _).trans rfl
theorem FixedBits.urcrsa32 (rd rs1 rs2 : Reg) : FixedBits.Statement (.urcrsa32 rd rs1 rs2) :=
  (fixed_funct _ _ _ _ _ _).trans rfl
theorem FixedBits.kcrsa32 (rd rs1 rs2 : Reg) : FixedBits.Statement (.kcrsa32 rd rs1 rs2) :=
  (fixed_funct _ _ _ _ _ _).trans rfl
theorem FixedBits.ukcrsa32 (rd rs1 rs2 : Reg) : FixedBits.Statement (.ukcrsa32 rd rs1 rs2) :=
  (fixed_funct _ _ _ _ _ _).trans rfl
theorem FixedBits.stas32 (rd rs1 rs2 : Reg) : FixedBits.Statement (.stas32 rd rs1 rs2) :=
  (fixed_funct _ _ _ _ _ _).trans rfl
theorem FixedBits.rstas32 (rd rs1 rs2 : Reg) : FixedBits.Statement (.rstas32 rd rs1 rs2) :=
  (fixed_funct _ _ _ _ _ _).trans rfl
theorem FixedBits.urstas32 (rd rs1 rs2 : Reg) : FixedBits.Statement (.urstas32 rd rs1 rs2) :=
  (fixed_funct _ _ _ _ _ _).trans rfl
theorem FixedBits.kstas32 (rd rs1 rs2 : Reg) : FixedBits.Statement (.kstas32 rd rs1 rs2) :=
  (fixed_funct _ _ _ _ _ _).trans rfl
theorem FixedBits.ukstas32 (rd rs1 rs2 : Reg) : FixedBits.Statement (.ukstas32 rd rs1 rs2) :=
  (fixed_funct _ _ _ _ _ _).trans rfl
theorem FixedBits.stsa32 (rd rs1 rs2 : Reg) : FixedBits.Statement (.stsa32 rd rs1 rs2) :=
  (fixed_funct _ _ _ _ _ _).trans rfl
theorem FixedBits.rstsa32 (rd rs1 rs2 : Reg) : FixedBits.Statement (.rstsa32 rd rs1 rs2) :=
  (fixed_funct _ _ _ _ _ _).trans rfl
theorem FixedBits.urstsa32 (rd rs1 rs2 : Reg) : FixedBits.Statement (.urstsa32 rd rs1 rs2) :=
  (fixed_funct _ _ _ _ _ _).trans rfl
theorem FixedBits.kstsa32 (rd rs1 rs2 : Reg) : FixedBits.Statement (.kstsa32 rd rs1 rs2) :=
  (fixed_funct _ _ _ _ _ _).trans rfl
theorem FixedBits.ukstsa32 (rd rs1 rs2 : Reg) : FixedBits.Statement (.ukstsa32 rd rs1 rs2) :=
  (fixed_funct _ _ _ _ _ _).trans rfl
theorem FixedBits.sra32 (rd rs1 rs2 : Reg) : FixedBits.Statement (.sra32 rd rs1 rs2) :=
  (fixed_funct _ _ _ _ _ _).trans rfl
theorem FixedBits.srai32 (rd rs1 : Reg) (imm : BitVec 5) : FixedBits.Statement (.srai32 rd rs1 imm) :=
  (fixed_funct _ _ _ _ _ _).trans rfl
theorem FixedBits.sra32U (rd rs1 rs2 : Reg) : FixedBits.Statement (.sra32U rd rs1 rs2) :=
  (fixed_funct _ _ _ _ _ _).trans rfl
theorem FixedBits.srai32U (rd rs1 : Reg) (imm : BitVec 5) : FixedBits.Statement (.srai32U rd rs1 imm) :=
  (fixed_funct _ _ _ _ _ _).trans rfl
theorem FixedBits.srl32 (rd rs1 rs2 : Reg) : FixedBits.Statement (.srl32 rd rs1 rs2) :=
  (fixed_funct _ _ _ _ _ _).trans rfl
theorem FixedBits.srli32 (rd rs1 : Reg) (imm : BitVec 5) : FixedBits.Statement (.srli32 rd rs1 imm) :=
  (fixed_funct _ _ _ _ _ _).trans rfl
theorem FixedBits.srl32U (rd rs1 rs2 : Reg) : FixedBits.Statement (.srl32U rd rs1 rs2) :=
  (fixed_funct _ _ _ _ _ _).trans rfl
theorem FixedBits.srli32U (rd rs1 : Reg) (imm : BitVec 5) : FixedBits.Statement (.srli32U rd rs1 imm) :=
  (fixed_funct _ _ _ _ _ _).trans rfl
theorem FixedBits.sll32 (rd rs1 rs2 : Reg) : FixedBits.Statement (.sll32 rd rs1 rs2) :=
  (fixed_funct _ _ _ _ _ _).trans rfl
theorem FixedBits.slli32 (rd rs1 : Reg) (imm : BitVec 5) : FixedBits.Statement (.slli32 rd rs1 imm) :=
  (fixed_funct _ _ _ _ _ _).trans rfl
theorem FixedBits.ksll32 (rd rs1 rs2 : Reg) : FixedBits.Statement (.ksll32 rd rs1 rs2) :=
  (fixed_funct _ _ _ _ _ _).trans rfl
theorem FixedBits.kslli32 (rd rs1 : Reg) (imm : BitVec 5) : FixedBits.Statement (.kslli32 rd rs1 imm) :=
  (fixed_funct _ _ _ _ _ _).trans rfl
theorem FixedBits.kslra32 (rd rs1 rs2 : Reg) : FixedBits.Statement (.kslra32 rd rs1 rs2) :=
  (fixed_funct _ _ _ _ _ _).trans rfl
theorem FixedBits.kslra32U (rd rs1 rs2 : Reg) : FixedBits.Statement (.kslra32U rd rs1 rs2) :=
  (fixed_funct _ _ _ _ _ _).trans rfl
theorem FixedBits.smin32 (rd rs1 rs2 : Reg) : FixedBits.Statement (.smin32 rd rs1 rs2) :=
  (fixed_funct _ _ _ _ _ _).trans rfl
theorem FixedBits.umin32 (rd rs1 rs2 : Reg) : FixedBits.Statement (.umin32 rd rs1 rs2) :=
  (fixed_funct _ _ _ _ _ _).trans rfl
theorem FixedBits.smax32 (rd rs1 rs2 : Reg) : FixedBits.Statement (.smax32 rd rs1 rs2) :=
  (fixed_funct _ _ _ _ _ _).trans rfl
theorem FixedBits.umax32 (rd rs1 rs2 : Reg) : FixedBits.Statement (.umax32 rd rs1 rs2) :=
  (fixed_funct _ _ _ _ _ _).trans rfl
theorem FixedBits.kabs32 (rd rs1 : Reg) : FixedBits.Statement (.kabs32 rd rs1) := (fixed_oneop _ _ _ _ _ _).trans rfl
theorem FixedBits.khmbb16 (rd rs1 rs2 : Reg) : FixedBits.Statement (.khmbb16 rd rs1 rs2) :=
  (fixed_funct _ _ _ _ _ _).trans rfl
theorem FixedBits.khmbt16 (rd rs1 rs2 : Reg) : FixedBits.Statement (.khmbt16 rd rs1 rs2) :=
  (fixed_funct _ _ _ _ _ _).trans rfl
theorem FixedBits.khmtt16 (rd rs1 rs2 : Reg) : FixedBits.Statement (.khmtt16 rd rs1 rs2) :=
  (fixed_funct _ _ _ _ _ _).trans rfl
theorem FixedBits.kdmbb16 (rd rs1 rs2 : Reg) : FixedBits.Statement (.kdmbb16 rd rs1 rs2) :=
  (fixed_funct _ _ _ _ _ _).trans rfl
theorem FixedBits.kdmbt16 (rd rs1 rs2 : Reg) : FixedBits.Statement (.kdmbt16 rd rs1 rs2) :=
  (fixed_funct _ _ _ _ _ _).trans rfl
theorem FixedBits.kdmtt16 (rd rs1 rs2 : Reg) : FixedBits.Statement (.kdmtt16 rd rs1 rs2) :=
  (fixed_funct _ _ _ _ _ _).trans rfl
theorem FixedBits.kdmabb16 (rd rs1 rs2 : Reg) : FixedBits.Statement (.kdmabb16 rd rs1 rs2) :=
  (fixed_funct _ _ _ _ _ _).trans rfl
theorem FixedBits.kdmabt16 (rd rs1 rs2 : Reg) : FixedBits.Statement (.kdmabt16 rd rs1 rs2) :=
  (fixed_funct _ _ _ _ _ _).trans rfl
theorem FixedBits.kdmatt16 (rd rs1 rs2 : Reg) : FixedBits.Statement (.kdmatt16 rd rs1 rs2) :=
  (fixed_funct _ _ _ _ _ _).trans rfl
theorem FixedBits.smbb32 (rd rs1 rs2 : Reg) : FixedBits.Statement (.smbb32 rd rs1 rs2) :=
  (fixed_funct _ _ _ _ _ _).trans rfl
theorem FixedBits.smbt32 (rd rs1 rs2 : Reg) : FixedBits.Statement (.smbt32 rd rs1 rs2) :=
  (fixed_funct _ _ _ _ _ _).trans rfl
theorem FixedBits.smtt32 (rd rs1 rs2 : Reg) : FixedBits.Statement (.smtt32 rd rs1 rs2) :=
  (fixed_funct _ _ _ _ _ _).trans rfl
theorem FixedBits.kmabb32 (rd rs1 rs2 : Reg) : FixedBits.Statement (.kmabb32 rd rs1 rs2) :=
  (fixed_funct _ _ _ _ _ _).trans rfl
theorem FixedBits.kmabt32 (rd rs1 rs2 : Reg) : FixedBits.Statement (.kmabt32 rd rs1 rs2) :=
  (fixed_funct _ _ _ _ _ _).trans rfl
theorem FixedBits.kmatt32 (rd rs1 rs2 : Reg) : FixedBits.Statement (.kmatt32 rd rs1 rs2) :=
  (fixed_funct _ _ _ _ _ _).trans rfl
theorem FixedBits.kmda32 (rd rs1 rs2 : Reg) : FixedBits.Statement (.kmda32 rd rs1 rs2) :=
  (fixed_funct _ _ _ _ _ _).trans rfl
theorem FixedBits.kmxda32 (rd rs1 rs2 : Reg) : FixedBits.Statement (.kmxda32 rd rs1 rs2) :=
  (fixed_funct _ _ _ _ _ _).trans rfl
theorem FixedBits.kmada32 (rd rs1 rs2 : Reg) : FixedBits.Statement (.kmada32 rd rs1 rs2) :=
  (fixed_funct _ _ _ _ _ _).trans rfl
theorem FixedBits.kmaxda32 (rd rs1 rs2 : Reg) : FixedBits.Statement (.kmaxda32 rd rs1 rs2) :=
  (fixed_funct _ _ _ _ _ _).trans rfl
theorem FixedBits.kmads32 (rd rs1 rs2 : Reg) : FixedBits.Statement (.kmads32 rd rs1 rs2) :=
  (fixed_funct _ _ _ _ _ _).trans rfl
theorem FixedBits.kmadrs32 (rd rs1 rs2 : Reg) : FixedBits.Statement (.kmadrs32 rd rs1 rs2) :=
  (fixed_funct _ _ _ _ _ _).trans rfl
theorem FixedBits.kmaxds32 (rd rs1 rs2 : Reg) : FixedBits.Statement (.kmaxds32 rd rs1 rs2) :=
  (fixed_funct _ _ _ _ _ _).trans rfl
theorem FixedBits.kmsda32 (rd rs1 rs2 : Reg) : FixedBits.Statement (.kmsda32 rd rs1 rs2) :=
  (fixed_funct _ _ _ _ _ _).trans rfl
theorem FixedBits.kmsxda32 (rd rs1 rs2 : Reg) : FixedBits.Statement (.kmsxda32 rd rs1 rs2) :=
  (fixed_funct _ _ _ _ _ _).trans rfl
theorem FixedBits.smds32 (rd rs1 rs2 : Reg) : FixedBits.Statement (.smds32 rd rs1 rs2) :=
  (fixed_funct _ _ _ _ _ _).trans rfl
theorem FixedBits.smdrs32 (rd rs1 rs2 : Reg) : FixedBits.Statement (.smdrs32 rd rs1 rs2) :=
  (fixed_funct _ _ _ _ _ _).trans rfl
theorem FixedBits.smxds32 (rd rs1 rs2 : Reg) : FixedBits.Statement (.smxds32 rd rs1 rs2) :=
  (fixed_funct _ _ _ _ _ _).trans rfl
theorem FixedBits.sraiwU (rd rs1 : Reg) (imm : BitVec 5) : FixedBits.Statement (.sraiwU rd rs1 imm) :=
  (fixed_funct _ _ _ _ _ _).trans rfl
theorem FixedBits.pkbb32 (rd rs1 rs2 : Reg) : FixedBits.Statement (.pkbb32 rd rs1 rs2) :=
  (fixed_funct _ _ _ _ _ _).trans rfl
theorem FixedBits.pkbt32 (rd rs1 rs2 : Reg) : FixedBits.Statement (.pkbt32 rd rs1 rs2) :=
  (fixed_funct _ _ _ _ _ _).trans rfl
theorem FixedBits.pktb32 (rd rs1 rs2 : Reg) : FixedBits.Statement (.pktb32 rd rs1 rs2) :=
  (fixed_funct _ _ _ _ _ _).trans rfl
theorem FixedBits.pktt32 (rd rs1 rs2 : Reg) : FixedBits.Statement (.pktt32 rd rs1 rs2) :=
  (fixed_funct _ _ _ _ _ _).trans rfl

end Sys2Proof.Laws
end

