-- ==== Sys2Proof/Laws/Results.lean ====
section
/-!
SUPPORT. From the shared operation a meaning is written with to the term of Safety.lean that a statement uses: one
lemma for each pair. `h` says which operation the meaning is, and holds by `rfl`.
-/

namespace Sys2Proof.Machine

open Sys2Proof

variable {s : State} {i : Instr} {rd : Reg}

/-! `State.writeLanes`. -/

theorem lanes_of {w : Nat} {g : Nat → Int} {p : Nat → BitVec w → Prop} (h : exec i s = s.writeLanes rd w g)
    (hp : ∀ j, j < s.lanes w → p j (trunc w (g j))) : Lanes s i rd w p := by
  obtain ⟨t, he, hf, hk, hx⟩ := writeLanes_effect s rd w g
  exact ⟨t, h.trans he, hf, hk, fun h0 j hj => by rw [hx h0 j hj]; exact hp j hj⟩

theorem lanesMod_of {w : Nat} {g f : Nat → Int} (h : exec i s = s.writeLanes rd w g)
    (hg : ∀ j, j < s.lanes w → g j % 2 ^ w = f j % 2 ^ w) : LanesMod s i rd w f :=
  lanes_of h fun j hj => by rw [toNat_trunc, hg j hj]

theorem lanesUnsigned_of {w : Nat} {g f : Nat → Int} (h : exec i s = s.writeLanes rd w g)
    (hg : ∀ j, j < s.lanes w → g j = f j ∧ 0 ≤ f j ∧ f j < 2 ^ w) : LanesUnsigned s i rd w f :=
  lanes_of h fun j hj => by
    obtain ⟨e, h0, h1⟩ := hg j hj
    rw [e, toNat_trunc_of w _ h0 h1]

theorem lanesSigned_of {w : Nat} {g f : Nat → Int} (h : exec i s = s.writeLanes rd (w + 1) g)
    (hg : ∀ j, j < s.lanes (w + 1) → g j = f j ∧ -2 ^ w ≤ f j ∧ f j < 2 ^ w) : LanesSigned s i rd (w + 1) f :=
  lanes_of h fun j hj => by
    obtain ⟨e, h0, h1⟩ := hg j hj
    rw [e, toInt_trunc_of w _ h0 h1]

/-! `State.clipLanes`. -/

theorem lanesClip_of {w : Nat} {g : Nat → Clipped} {clip : Nat → Prop} {val : Nat → Int}
    (h : exec i s = s.clipLanes rd (w + 1) g)
    (hg : ∀ j, j < s.lanes (w + 1) →
      ((g j).clip = true ↔ clip j) ∧ (g j).val = val j ∧ -2 ^ w ≤ val j ∧ val j < 2 ^ w) :
    LanesClip s i rd (w + 1) clip val := fun hoff => by
  obtain ⟨t, he, hf, hc, hx⟩ := clipLanes_effect s rd (w + 1) g hoff
  refine ⟨t, h.trans he, hf, ?_, fun h0 j hj => ?_⟩
  · have e : (∃ j, j < s.lanes (w + 1) ∧ (g j).clip = true) = ∃ j, j < s.lanes (w + 1) ∧ clip j :=
      propext ⟨fun ⟨j, hj, hh⟩ => ⟨j, hj, (hg j hj).1.mp hh⟩, fun ⟨j, hj, hh⟩ => ⟨j, hj, (hg j hj).1.mpr hh⟩⟩
    rwa [e] at hc
  · obtain ⟨-, e, h1, h2⟩ := hg j hj
    rw [hx h0 j hj, e, toInt_trunc_of w _ h1 h2]

theorem lanesSat_of {w n : Nat} {g : Nat → Int} {f : Nat → Int} (hn : n ≤ w)
    (h : exec i s = s.clipLanes rd (w + 1) fun j => satq n (g j)) (hg : ∀ j, j < s.lanes (w + 1) → g j = f j) :
    LanesSat s i rd (w + 1) (-2 ^ n) (2 ^ n - 1) f :=
  lanesClip_of h fun j hj => by
    have hp : (0 : Int) < 2 ^ n := by positivity
    have hle : (2 : Int) ^ n ≤ 2 ^ w := pow_le_pow_right₀ (by norm_num) hn
    have h1 := clamp_ge (-2 ^ n) (2 ^ n - 1) (f j) (by omega)
    have h2 := clamp_le (-2 ^ n) (2 ^ n - 1) (f j) (by omega)
    rw [hg j hj]
    exact ⟨satq_clip n _, satq_val n _, by omega, by omega⟩

theorem lanesUnsignedSat_of {w : Nat} {g : Nat → Int} {f : Nat → Int}
    (h : exec i s = s.clipLanes rd w fun j => satu w (g j)) (hg : ∀ j, j < s.lanes w → g j = f j) :
    LanesUnsignedSat s i rd w f := fun hoff => by
  obtain ⟨t, he, hf, hc, hx⟩ := clipLanes_effect s rd w _ hoff
  have hp : (0 : Int) < 2 ^ w := by positivity
  refine ⟨t, h.trans he, hf, ?_, fun h0 j hj => ?_⟩
  · have e : (∃ j, j < s.lanes w ∧ (satu w (g j)).clip = true) =
        ∃ j, j < s.lanes w ∧ outside 0 (2 ^ w - 1) (f j) :=
      propext ⟨fun ⟨j, hj, hh⟩ => ⟨j, hj, by rw [← hg j hj]; exact (satu_clip w _).mp hh⟩,
        fun ⟨j, hj, hh⟩ => ⟨j, hj, by rw [hg j hj]; exact (satu_clip w _).mpr hh⟩⟩
    rwa [e] at hc
  · have h1 := clamp_ge 0 (2 ^ w - 1) (f j) (by omega)
    have h2 := clamp_le 0 (2 ^ w - 1) (f j) (by omega)
    rw [hx h0 j hj, satu_val, hg j hj, toNat_trunc_of w _ h1 (by omega)]

/-! One GPR. -/

theorem toNat_wrapX (x : Xlen) (v : XWord) : (wrapX x v).toNat = v.toNat % 2 ^ x.bits := by
  cases x
  · have h : v.toNat < 2 ^ 64 := v.isLt
    simp only [wrapX, BitVec.toNat_setWidth]
    exact Nat.mod_eq_of_lt (lt_trans (Nat.mod_lt _ (by norm_num)) (by norm_num))
  · exact (Nat.mod_eq_of_lt v.isLt).symm

theorem signedX_wrapX (x : Xlen) (v : XWord) : signedX x (wrapX x v) = (v.toNat : Int).bmod (2 ^ x.bits) := by
  cases x
  · simp only [signedX, setWidth_wrapX, sval, BitVec.toInt_eq_toNat_bmod, BitVec.toNat_setWidth, Xlen.bits]
    push_cast
    exact Int.emod_bmod _ 4294967296
  · simp only [signedX, wrapX, sval, BitVec.toInt_eq_toNat_bmod, Xlen.bits]

theorem bmod_of_mem {x : Xlen} {k : Int} (h0 : -2 ^ (x.bits - 1) ≤ k) (h1 : k < 2 ^ (x.bits - 1)) :
    k.bmod (2 ^ x.bits) = k := by
  cases x <;> simp only [Xlen.bits] at * <;> apply Int.bmod_eq_of_le_mul_two <;> push_cast <;> norm_num at * <;> omega

/-- `x[rd]` read as signed after an XLEN-bit value was written. -/
theorem signedX_trunc (x : Xlen) (k : Int) (h0 : -2 ^ (x.bits - 1) ≤ k) (h1 : k < 2 ^ (x.bits - 1)) :
    signedX x (wrapX x (trunc 64 k)) = k := by
  rw [signedX_wrapX, toNat_trunc]
  have hb : ((2 ^ x.bits : Nat) : Int) ∣ 2 ^ 64 := by cases x <;> norm_num [Xlen.bits]
  have e : ((k % 2 ^ 64).bmod (2 ^ x.bits)) = k.bmod (2 ^ x.bits) := by
    rw [Int.bmod_def, Int.bmod_def, Int.emod_emod_of_dvd _ hb]
  rw [e, bmod_of_mem h0 h1]

/-- `x[rd]` read as signed after a sign-extended narrower value was written. -/
theorem signedX_signExtend {n : Nat} (x : Xlen) (v : BitVec (n + 1)) (hn : n + 1 ≤ x.bits) :
    signedX x (wrapX x (v.signExtend 64)) = v.toInt := by
  have h64 : n + 1 ≤ 64 := le_trans hn (bits_le x)
  have e : v.signExtend 64 = trunc 64 v.toInt := by
    apply BitVec.eq_of_toInt_eq
    rw [BitVec.toInt_signExtend_of_le h64, toInt_trunc_bmod, Int.bmod_eq_of_le_mul_two]
    all_goals
      have h1 := BitVec.le_toInt v
      have h2 := BitVec.toInt_lt (x := v)
      have h3 : (2 : Int) ^ n ≤ 2 ^ 63 := pow_le_pow_right₀ (by norm_num) (by omega)
      push_cast
      simp only [Nat.add_sub_cancel] at h1 h2
      norm_num at *
      omega
  rw [e, signedX_trunc]
  all_goals
    have h1 := BitVec.le_toInt v
    have h2 := BitVec.toInt_lt (x := v)
    have h3 : (2 : Int) ^ n ≤ 2 ^ (x.bits - 1) := pow_le_pow_right₀ (by norm_num) (by omega)
    simp only [Nat.add_sub_cancel] at h1 h2
    omega

theorem signed_of {v : XWord} {k : Int} (h : exec i s = s.writeBits rd v)
    (hk : signedX s.cfg.xlen (wrapX s.cfg.xlen v) = k) : Signed s i rd k := by
  obtain ⟨t, he, hf, hkept, hx⟩ := writeBits_effect s rd v
  exact ⟨t, h.trans he, hf, hkept, fun h0 => by unfold State.sx; rw [hx h0, hf.cfg]; exact hk⟩

theorem unsignedMod_of {v : XWord} {k : Int} (h : exec i s = s.writeBits rd v)
    (hk : (v.toNat : Int) % 2 ^ s.xlen = k % 2 ^ s.xlen) : UnsignedMod s i rd k := by
  obtain ⟨t, he, hf, hkept, hx⟩ := writeBits_effect s rd v
  refine ⟨t, h.trans he, hf, hkept, fun h0 => ?_⟩
  unfold State.ux uval
  rw [hx h0, toNat_wrapX]
  push_cast
  exact hk

theorem bits_of {v : XWord} {f : Nat → Bool} (h : exec i s = s.writeBits rd v)
    (hk : ∀ b, b < s.xlen → v.getLsbD b = f b) : Bits s i rd f := by
  obtain ⟨t, he, hf, hkept, hx⟩ := writeBits_effect s rd v
  refine ⟨t, h.trans he, hf, hkept, fun h0 b hb => ?_⟩
  rw [hx h0, ← hk b hb]
  have hb' : b < s.cfg.xlen.bits := hb
  cases hxl : s.cfg.xlen
  · rw [hxl] at hb'
    have hb2 : b < 32 := hb'
    have hb3 : b < 64 := by omega
    simp [wrapX, hb2, hb3]
  · rfl

theorem signedClip_of {v : XWord} {c : Bool} {clip : Prop} {k : Int} (h : exec i s = s.clipped (s.setX rd v) c)
    (hc : c = true ↔ clip) (hk : signedX s.cfg.xlen (wrapX s.cfg.xlen v) = k) : SignedClip s i rd clip k := fun hoff => by
  obtain ⟨t, he, hf, hfl, hx⟩ := clipped_setX_effect s rd v c hoff
  refine ⟨t, h.trans he, hf, ?_, fun h0 => by unfold State.sx; rw [hx h0, hf.cfg]; exact hk⟩
  rwa [propext hc] at hfl

/-! 64-bit operands. -/

theorem result64_of {k : Int} {p : XWord → Prop} (h : exec i s = s.write64 rd k) (hp : p (trunc 64 k)) :
    Result64 s i rd p := by
  obtain ⟨t, he, hf, hk, hx⟩ := write64_effect s rd k
  exact ⟨t, h.trans he, hf, hk, fun h0 => by rw [hx h0]; exact hp⟩

theorem mod64_of {k f : Int} (h : exec i s = s.write64 rd k) (hk : k % 2 ^ 64 = f % 2 ^ 64) : Mod64 s i rd f :=
  result64_of h (by rw [toNat_trunc, hk])

theorem signed64_of {k f : Int} (h : exec i s = s.write64 rd k) (hk : k = f) (h0 : -2 ^ 63 ≤ f) (h1 : f < 2 ^ 63) :
    Signed64 s i rd f :=
  result64_of h (by rw [hk, toInt_trunc_of 63 _ h0 h1])

theorem lanes64Signed_of {w : Nat} {g f : Nat → Int} (h : exec i s = s.write64Lanes rd (w + 1) g)
    (hg : ∀ j, j < 64 / (w + 1) → g j = f j ∧ -2 ^ w ≤ f j ∧ f j < 2 ^ w) : Lanes64Signed s i rd (w + 1) f := by
  obtain ⟨t, he, hf, hk, hx⟩ := write64Lanes_effect s rd (w + 1) g
  refine ⟨t, h.trans he, hf, hk, fun h0 j hj => ?_⟩
  obtain ⟨e, h1, h2⟩ := hg j hj
  rw [hx h0 j hj, e, toInt_trunc_of w _ h1 h2]

theorem lanes64Unsigned_of {w : Nat} {g f : Nat → Int} (h : exec i s = s.write64Lanes rd w g)
    (hg : ∀ j, j < 64 / w → g j = f j ∧ 0 ≤ f j ∧ f j < 2 ^ w) : Lanes64Unsigned s i rd w f := by
  obtain ⟨t, he, hf, hk, hx⟩ := write64Lanes_effect s rd w g
  refine ⟨t, h.trans he, hf, hk, fun h0 j hj => ?_⟩
  obtain ⟨e, h1, h2⟩ := hg j hj
  rw [hx h0 j hj, e, toNat_trunc_of w _ h1 h2]

theorem sat64_of {k f : Int} (h : exec i s = s.clip64 rd (satq 63 k)) (hk : k = f) : Sat64 s i rd f := fun hoff => by
  obtain ⟨t, he, hf, hfl, hx⟩ := clipped_setX64_effect s rd (trunc 64 (satq 63 k).val) (satq 63 k).clip hoff
  refine ⟨t, h.trans he, hf, ?_, fun h0 => ?_⟩
  · rwa [propext (satq_clip 63 k), hk] at hfl
  · have h1 := clamp_ge (-2 ^ 63) (2 ^ 63 - 1) f (by norm_num)
    have h2 := clamp_le (-2 ^ 63) (2 ^ 63 - 1) f (by norm_num)
    rw [hx h0, satq_val, hk, toInt_trunc_of 63 _ h1 (by omega)]

theorem unsignedSat64_of {k f : Int} (h : exec i s = s.clip64 rd (satu 64 k)) (hk : k = f) :
    UnsignedSat64 s i rd f := fun hoff => by
  obtain ⟨t, he, hf, hfl, hx⟩ := clipped_setX64_effect s rd (trunc 64 (satu 64 k).val) (satu 64 k).clip hoff
  refine ⟨t, h.trans he, hf, ?_, fun h0 => ?_⟩
  · rwa [propext (satu_clip 64 k), hk] at hfl
  · have h1 := clamp_ge 0 (2 ^ 64 - 1) f (by norm_num)
    have h2 := clamp_le 0 (2 ^ 64 - 1) f (by norm_num)
    rw [hx h0, satu_val, hk, toNat_trunc_of 64 _ h1 (by omega)]

/-! More forms of results: words and halfwords sign-extended, bits, lanes of halfwords within words. -/

/-- `x[rd]` after `sext_XLEN(trunc_32(k))` was written. -/
theorem signedX_word (x : Xlen) (k : Int) : signedX x (wrapX x ((trunc 32 k).signExtend 64)) = k.bmod (2 ^ 32) := by
  rw [signedX_signExtend (n := 31) x _ (by cases x <;> decide), toInt_trunc_bmod]

theorem signedX_word_of (x : Xlen) (k : Int) (h0 : -2 ^ 31 ≤ k) (h1 : k ≤ 2 ^ 31 - 1) :
    signedX x (wrapX x ((trunc 32 k).signExtend 64)) = k := by
  rw [signedX_signExtend (n := 31) x _ (by cases x <;> decide), toInt_trunc_of 31 _ h0 (by omega)]

/-- `x[rd]` after `sext_XLEN(trunc_16(k))` was written. -/
theorem signedX_half (x : Xlen) (k : Int) : signedX x (wrapX x ((trunc 16 k).signExtend 64)) = k.bmod (2 ^ 16) := by
  rw [signedX_signExtend (n := 15) x _ (by cases x <;> decide), toInt_trunc_bmod]

theorem signedX_half_of (x : Xlen) (k : Int) (h0 : -2 ^ 15 ≤ k) (h1 : k ≤ 2 ^ 15 - 1) :
    signedX x (wrapX x ((trunc 16 k).signExtend 64)) = k := by
  rw [signedX_signExtend (n := 15) x _ (by cases x <;> decide), toInt_trunc_of 15 _ h0 (by omega)]

/-- The signed value of a register fits in XLEN bits. -/
theorem sx_range (s : State) (r : Reg) : -2 ^ (s.cfg.xlen.bits - 1) ≤ s.sx r ∧ s.sx r < 2 ^ (s.cfg.xlen.bits - 1) := by
  unfold State.sx signedX sval
  cases s.cfg.xlen
  · exact ⟨BitVec.le_toInt _, BitVec.toInt_lt⟩
  · exact ⟨BitVec.le_toInt _, BitVec.toInt_lt⟩

theorem amountX_lt (s : State) (r : Reg) : s.amountX r < 64 := by
  rw [amountX_eq]
  unfold State.xlen
  cases s.cfg.xlen <;> simp only [Xlen.bits] <;> omega

/-- Bit b of a value whose low bits are reversed (rule R437). -/
theorem getLsbD_bitReverse (msb : Nat) (v : XWord) (b : Nat) (h : msb < 64) :
    (bitReverse msb v).getLsbD b = (decide (b ≤ msb) && v.getLsbD (msb - b)) := by
  unfold bitReverse
  rw [BitVec.getLsbD_ushiftRight, BitVec.getLsbD_reverse, BitVec.getMsbD]
  by_cases hb : b ≤ msb
  · have h1 : 63 - msb + b < 64 := by omega
    have h2 : 64 - 1 - (63 - msb + b) = msb - b := by omega
    simp [hb, h1, h2]
  · have h1 : ¬63 - msb + b < 64 := by omega
    simp [hb, h1]

/-- Bit b of a word taken out of 64 bits and sign-extended (rule R441). -/
theorem getLsbD_wordAt (lsb : Nat) (v : XWord) (b : Nat) (hb : b < 64) :
    (wordAt lsb v).getLsbD b = v.getLsbD (lsb + min b 31) := by
  unfold wordAt
  rw [BitVec.getLsbD_signExtend, decide_eq_true hb, Bool.true_and]
  by_cases h : b < 32
  · have e : min b 31 = b := by omega
    simp [h, e]
  · have e : min b 31 = 31 := by omega
    simp [h, e, BitVec.msb_eq_getLsbD_last]

/-- Lanes of a value that was written as a whole. -/
theorem lanes_of_bits {w : Nat} {v : XWord} {p : Nat → BitVec w → Prop} (h : exec i s = s.writeBits rd v)
    (hp : ∀ j, j < s.lanes w → p j (lane w v j)) : Lanes s i rd w p := by
  obtain ⟨t, he, hf, hk, hx⟩ := writeBits_effect s rd v
  refine ⟨t, h.trans he, hf, hk, fun h0 j hj => ?_⟩
  rw [hx h0, lane_wrapX _ _ _ _ (lane_below s.cfg.xlen w j hj)]
  exact hp j hj

/-- Two halves joined are one value, the first on top (rule R14). -/
theorem trunc_join (w : Nat) (a b : BitVec w) : trunc (w + w) (join w (uval a) (uval b)) = a ++ b := by
  apply BitVec.eq_of_toNat_eq
  apply Int.ofNat_inj.mp
  have ha := a.isLt
  have hb := b.isLt
  have hp : (2 : Int) ^ (w + w) = 2 ^ w * 2 ^ w := by ring
  have ha' : (a.toNat : Int) < 2 ^ w := by exact_mod_cast ha
  have hb' : (b.toNat : Int) < 2 ^ w := by exact_mod_cast hb
  rw [toNat_trunc_of]
  · rw [BitVec.toNat_append, ← Nat.shiftLeft_add_eq_or_of_lt hb, Nat.shiftLeft_eq]
    simp [join, uval]
  · unfold join uval; positivity
  · unfold join uval; rw [hp]; nlinarith

theorem extract_append_low {w : Nat} (a b : BitVec w) : (a ++ b).extractLsb' 0 w = b := by
  apply BitVec.eq_of_getLsbD_eq
  intro k hk
  rw [BitVec.getLsbD_extractLsb', BitVec.getLsbD_append]
  simp [hk]

theorem extract_append_high {w : Nat} (a b : BitVec w) : (a ++ b).extractLsb' w w = a := by
  apply BitVec.eq_of_getLsbD_eq
  intro k hk
  rw [BitVec.getLsbD_extractLsb', BitVec.getLsbD_append]
  simp [hk]

/-- The halfwords of a register written with words that are pairs of halfwords (rules R282 to R285). -/
theorem lanes16_of_words {a b : Nat → BitVec 16}
    (h : exec i s = s.writeLanes rd 32 fun j => join 16 (uval (a j)) (uval (b j))) :
    Lanes s i rd 16 fun j r => r = topBottom j (a (j / 2)) (b (j / 2)) := by
  obtain ⟨t, he, hf, hk, hx⟩ := writeLanes_effect s rd 32 _
  refine ⟨t, h.trans he, hf, hk, fun h0 j hj => ?_⟩
  have hj2 : j / 2 < s.lanes 32 := by
    unfold State.lanes State.xlen at *
    cases hxl : s.cfg.xlen <;> simp only [hxl, Xlen.bits] at * <;> omega
  have hw := hx h0 (j / 2) hj2
  rw [trunc_join 16] at hw
  have e : lane 16 (t.x rd) j = (lane 32 (t.x rd) (j / 2)).extractLsb' (16 * (j % 2)) 16 := by
    apply BitVec.eq_of_getLsbD_eq
    intro k hk
    have h1 : 16 * (j % 2) + k < 32 := by omega
    have h2 : 32 * (j / 2) + (16 * (j % 2) + k) = 16 * j + k := by omega
    simp [lane, hk, h1, h2]
  rw [e, hw]
  unfold topBottom
  dsimp only
  split
  · rename_i hodd
    rw [hodd]
    exact extract_append_high (a (j / 2)) (b (j / 2))
  · rename_i hodd
    have h0 : j % 2 = 0 := by omega
    rw [h0]
    exact extract_append_low (a (j / 2)) (b (j / 2))

/-- The words of an RV64 register written with two joined words (rules R541 to R544). -/
theorem lanes32_of_join {a b : BitVec 32} (hx : s.cfg.xlen = .rv64)
    (h : exec i s = s.writeX rd (join 32 (uval a) (uval b))) :
    Lanes s i rd 32 fun j r => r = topBottom j a b := by
  refine lanes_of_bits h fun j hj => ?_
  rw [trunc_join 32]
  have h2 : j < 2 := by simpa [State.lanes, State.xlen, hx, Xlen.bits] using hj
  have h : j = 0 ∨ j = 1 := by omega
  rcases h with rfl | rfl
  · exact extract_append_low a b
  · exact extract_append_high a b

end Sys2Proof.Machine
end

