-- ==== Sys2Proof/Tests/Slice0.lean ====
section
/-!
SUPPORT. Tests of the model, and for each statement with hypotheses a state and operands that meet them.
-/

namespace Sys2Proof.Tests

/- One theorem after the other: elaborating them at once takes a thread, and its stack, for each. -/
set_option Elab.async false

open Sys2Proof Sys2Proof.Machine

/-! WellFormed: one ill-formed term for each check, which the check refuses. -/

/-- LD is an RV64 row and ADD64 an RV32 row (rules R53, R362): neither exists at the other width. -/
theorem test_wellFormed_known :
    wellFormed .rv32 (.ld 1#5 2#5 0#12) = false ∧ wellFormed .rv64 (.add64 2#5 4#5 6#5) = false ∧
      wellFormed .rv64 (.ld 1#5 2#5 0#12) = true := ⟨rfl, rfl, rfl⟩

/-- An odd branch offset has no word (rule R83). -/
theorem test_wellFormed_offset :
    wellFormed .rv32 (.bne 1#5 2#5 3#13) = false ∧ wellFormed .rv32 (.bne 1#5 2#5 6#13) = true := ⟨rfl, rfl⟩

/-- Terms whose words are read as another constructor (rules R27, R28, R79, R244). -/
theorem test_wellFormed_ownWord :
    wellFormed .rv32 (.csrrs 1#5 0#5) = false ∧ wellFormed .rv32 (.csrrci 0#5 1#5) = false ∧
      wellFormed .rv32 (.pkbt16 1#5 2#5 2#5) = false ∧ wellFormed .rv64 (.smbb32 1#5 2#5 3#5) = false ∧
      wellFormed .rv64 (.kmada32 1#5 2#5 3#5) = false ∧ wellFormed .rv64 (.pkbb32 1#5 2#5 3#5) = false ∧
      wellFormed .rv64 (.pktt32 1#5 2#5 3#5) = false ∧ wellFormed .rv32 (.pkbt16 1#5 2#5 3#5) = true :=
  ⟨rfl, rfl, rfl, rfl, rfl, rfl, rfl, rfl⟩

/-- R3, R46: RV64 has Zpsfoperand, and the region lies in the address space. -/
theorem test_config_wellFormed :
    Config.default.wellFormed = true ∧ ({ Config.default with zpsf := false } : Config).wellFormed = false :=
  ⟨rfl, by decide⟩

/-! Decoding: a word written out for every row. -/

/-- Each word decodes to the instruction beside it. -/
def Reads (x : Xlen) (l : List (Word × Instr)) : Prop := l.map (fun p => decode x p.1) = l.map fun p => some p.2


/-- Words of 10_state.md, the operand fields written into the row's `match`. -/
theorem test_decode_Csr_rv32 : Reads .rv32
    [(0x00902573#32, .rdov 10#5),
     (0x0090f073#32, .clrov),
     (0x009a9573#32, .csrrw 10#5 21#5),
     (0x009aa573#32, .csrrs 10#5 21#5),
     (0x009ab573#32, .csrrc 10#5 21#5),
     (0x0099d573#32, .csrrwi 10#5 19#5),
     (0x0099e573#32, .csrrsi 10#5 19#5),
     (0x0099f573#32, .csrrci 10#5 19#5)] := rfl

/-- Words of 20_memory.md and 30_encoding.md, the operand fields written into the row's `match`. -/
theorem test_decode_Base_rv32 : Reads .rv32
    [(0xabcaa503#32, .lw 10#5 21#5 2748#12),
     (0xaaeaae23#32, .sw 14#5 21#5 0xabc#12),
     (0xabca8513#32, .addi 10#5 21#5 2748#12),
     (0xabcde537#32, .lui 10#5 703710#20),
     (0xd4ea9d63#32, .bne 21#5 14#5 0x155a#13)] := rfl

/-- Words of 20_memory.md and 30_encoding.md, the operand fields written into the row's `match`. -/
theorem test_decode_Base_rv64 : Reads .rv64
    [(0xabcab503#32, .ld 10#5 21#5 2748#12),
     (0xaaeabe23#32, .sd 14#5 21#5 0xabc#12)] := rfl

/-- Words of 40_zbpbo.md, the operand fields written into the row's `match`. -/
theorem test_decode_Zbpbo_rv32 : Reads .rv32
    [(0x600a9513#32, .clz 10#5 21#5),
     (0xceea9533#32, .cmix 10#5 21#5 14#5 25#5),
     (0xccead533#32, .fsr 10#5 21#5 14#5 25#5),
     (0xcedad513#32, .fsri 10#5 21#5 25#5 45#6),
     (0x0aeae533#32, .max 10#5 21#5 14#5),
     (0x0aeac533#32, .min 10#5 21#5 14#5),
     (0x08eac533#32, .pack 10#5 21#5 14#5),
     (0x48eac533#32, .packu 10#5 21#5 14#5),
     (0x69fad513#32, .revRv32 10#5 21#5),
     (0x688ad513#32, .rev8H 10#5 21#5),
     (0xc8eab577#32, .bpick 10#5 21#5 14#5 25#5),
     (0xf2ea8577#32, .maxw 10#5 21#5 14#5),
     (0xf0ea8577#32, .minw 10#5 21#5 14#5)] := rfl

/-- Words of 40_zbpbo.md, the operand fields written into the row's `match`. -/
theorem test_decode_Zbpbo_rv64 : Reads .rv64
    [(0xccead53b#32, .fsrw 10#5 21#5 14#5 25#5),
     (0x6bfad513#32, .revRv64 10#5 21#5)] := rfl

/-- Words of 41_simd_addsub16.md, the operand fields written into the row's `match`. -/
theorem test_decode_AddSub16_rv32 : Reads .rv32
    [(0x40ea8577#32, .add16 10#5 21#5 14#5),
     (0x00ea8577#32, .radd16 10#5 21#5 14#5),
     (0x20ea8577#32, .uradd16 10#5 21#5 14#5),
     (0x10ea8577#32, .kadd16 10#5 21#5 14#5),
     (0x30ea8577#32, .ukadd16 10#5 21#5 14#5),
     (0x42ea8577#32, .sub16 10#5 21#5 14#5),
     (0x02ea8577#32, .rsub16 10#5 21#5 14#5),
     (0x22ea8577#32, .ursub16 10#5 21#5 14#5),
     (0x12ea8577#32, .ksub16 10#5 21#5 14#5),
     (0x32ea8577#32, .uksub16 10#5 21#5 14#5),
     (0x44ea8577#32, .cras16 10#5 21#5 14#5),
     (0x04ea8577#32, .rcras16 10#5 21#5 14#5),
     (0x24ea8577#32, .urcras16 10#5 21#5 14#5),
     (0x14ea8577#32, .kcras16 10#5 21#5 14#5),
     (0x34ea8577#32, .ukcras16 10#5 21#5 14#5),
     (0x46ea8577#32, .crsa16 10#5 21#5 14#5),
     (0x06ea8577#32, .rcrsa16 10#5 21#5 14#5),
     (0x26ea8577#32, .urcrsa16 10#5 21#5 14#5),
     (0x16ea8577#32, .kcrsa16 10#5 21#5 14#5),
     (0x36ea8577#32, .ukcrsa16 10#5 21#5 14#5),
     (0xf4eaa577#32, .stas16 10#5 21#5 14#5),
     (0xb4eaa577#32, .rstas16 10#5 21#5 14#5),
     (0xd4eaa577#32, .urstas16 10#5 21#5 14#5),
     (0xc4eaa577#32, .kstas16 10#5 21#5 14#5),
     (0xe4eaa577#32, .ukstas16 10#5 21#5 14#5),
     (0xf6eaa577#32, .stsa16 10#5 21#5 14#5),
     (0xb6eaa577#32, .rstsa16 10#5 21#5 14#5),
     (0xd6eaa577#32, .urstsa16 10#5 21#5 14#5),
     (0xc6eaa577#32, .kstsa16 10#5 21#5 14#5),
     (0xe6eaa577#32, .ukstsa16 10#5 21#5 14#5)] := rfl

/-- Words of 42_simd_addsub8_shift.md, the operand fields written into the row's `match`. -/
theorem test_decode_AddSub8Shift_rv32_a : Reads .rv32
    [(0x48ea8577#32, .add8 10#5 21#5 14#5),
     (0x08ea8577#32, .radd8 10#5 21#5 14#5),
     (0x28ea8577#32, .uradd8 10#5 21#5 14#5),
     (0x18ea8577#32, .kadd8 10#5 21#5 14#5),
     (0x38ea8577#32, .ukadd8 10#5 21#5 14#5),
     (0x4aea8577#32, .sub8 10#5 21#5 14#5),
     (0x0aea8577#32, .rsub8 10#5 21#5 14#5),
     (0x2aea8577#32, .ursub8 10#5 21#5 14#5),
     (0x1aea8577#32, .ksub8 10#5 21#5 14#5),
     (0x3aea8577#32, .uksub8 10#5 21#5 14#5),
     (0x50ea8577#32, .sra16 10#5 21#5 14#5),
     (0x70ba8577#32, .srai16 10#5 21#5 11#4),
     (0x60ea8577#32, .sra16U 10#5 21#5 14#5),
     (0x71ba8577#32, .srai16U 10#5 21#5 11#4),
     (0x52ea8577#32, .srl16 10#5 21#5 14#5),
     (0x72ba8577#32, .srli16 10#5 21#5 11#4),
     (0x62ea8577#32, .srl16U 10#5 21#5 14#5),
     (0x73ba8577#32, .srli16U 10#5 21#5 11#4),
     (0x54ea8577#32, .sll16 10#5 21#5 14#5),
     (0x74ba8577#32, .slli16 10#5 21#5 11#4),
     (0x64ea8577#32, .ksll16 10#5 21#5 14#5),
     (0x75ba8577#32, .kslli16 10#5 21#5 11#4),
     (0x56ea8577#32, .kslra16 10#5 21#5 14#5),
     (0x66ea8577#32, .kslra16U 10#5 21#5 14#5),
     (0x58ea8577#32, .sra8 10#5 21#5 14#5),
     (0x785a8577#32, .srai8 10#5 21#5 5#3),
     (0x68ea8577#32, .sra8U 10#5 21#5 14#5),
     (0x78da8577#32, .srai8U 10#5 21#5 5#3),
     (0x5aea8577#32, .srl8 10#5 21#5 14#5),
     (0x7a5a8577#32, .srli8 10#5 21#5 5#3),
     (0x6aea8577#32, .srl8U 10#5 21#5 14#5),
     (0x7ada8577#32, .srli8U 10#5 21#5 5#3)] := rfl

/-- Words of 42_simd_addsub8_shift.md, the operand fields written into the row's `match`. -/
theorem test_decode_AddSub8Shift_rv32_b : Reads .rv32
    [(0x5cea8577#32, .sll8 10#5 21#5 14#5),
     (0x7c5a8577#32, .slli8 10#5 21#5 5#3),
     (0x6cea8577#32, .ksll8 10#5 21#5 14#5),
     (0x7cda8577#32, .kslli8 10#5 21#5 5#3),
     (0x5eea8577#32, .kslra8 10#5 21#5 14#5),
     (0x6eea8577#32, .kslra8U 10#5 21#5 14#5)] := rfl

/-- Words of 43_simd_cmp_misc_unpack.md, the operand fields written into the row's `match`. -/
theorem test_decode_CmpMiscUnpack_rv32_a : Reads .rv32
    [(0x4cea8577#32, .cmpeq16 10#5 21#5 14#5),
     (0x0cea8577#32, .scmplt16 10#5 21#5 14#5),
     (0x1cea8577#32, .scmple16 10#5 21#5 14#5),
     (0x2cea8577#32, .ucmplt16 10#5 21#5 14#5),
     (0x3cea8577#32, .ucmple16 10#5 21#5 14#5),
     (0x4eea8577#32, .cmpeq8 10#5 21#5 14#5),
     (0x0eea8577#32, .scmplt8 10#5 21#5 14#5),
     (0x1eea8577#32, .scmple8 10#5 21#5 14#5),
     (0x2eea8577#32, .ucmplt8 10#5 21#5 14#5),
     (0x3eea8577#32, .ucmple8 10#5 21#5 14#5),
     (0x80ea8577#32, .smin16 10#5 21#5 14#5),
     (0x90ea8577#32, .umin16 10#5 21#5 14#5),
     (0x82ea8577#32, .smax16 10#5 21#5 14#5),
     (0x92ea8577#32, .umax16 10#5 21#5 14#5),
     (0x84ba8577#32, .sclip16 10#5 21#5 11#4),
     (0x85ba8577#32, .uclip16 10#5 21#5 11#4),
     (0xad1a8577#32, .kabs16 10#5 21#5),
     (0xae8a8577#32, .clrs16 10#5 21#5),
     (0xae9a8577#32, .clz16 10#5 21#5),
     (0x1f5a9577#32, .swap16 10#5 21#5),
     (0x88ea8577#32, .smin8 10#5 21#5 14#5),
     (0x98ea8577#32, .umin8 10#5 21#5 14#5),
     (0x8aea8577#32, .smax8 10#5 21#5 14#5),
     (0x9aea8577#32, .umax8 10#5 21#5 14#5),
     (0xad0a8577#32, .kabs8 10#5 21#5),
     (0x8c5a8577#32, .sclip8 10#5 21#5 5#3),
     (0x8d5a8577#32, .uclip8 10#5 21#5 5#3),
     (0xae0a8577#32, .clrs8 10#5 21#5),
     (0xae1a8577#32, .clz8 10#5 21#5),
     (0xad8a8577#32, .swap8 10#5 21#5),
     (0xac8a8577#32, .sunpkd810 10#5 21#5),
     (0xac9a8577#32, .sunpkd820 10#5 21#5)] := rfl

/-- Words of 43_simd_cmp_misc_unpack.md, the operand fields written into the row's `match`. -/
theorem test_decode_CmpMiscUnpack_rv32_b : Reads .rv32
    [(0xacaa8577#32, .sunpkd830 10#5 21#5),
     (0xacba8577#32, .sunpkd831 10#5 21#5),
     (0xad3a8577#32, .sunpkd832 10#5 21#5),
     (0xacca8577#32, .zunpkd810 10#5 21#5),
     (0xacda8577#32, .zunpkd820 10#5 21#5),
     (0xacea8577#32, .zunpkd830 10#5 21#5),
     (0xacfa8577#32, .zunpkd831 10#5 21#5),
     (0xad7a8577#32, .zunpkd832 10#5 21#5)] := rfl

/-- Words of 44_simd_mul_pack_msw.md, the operand fields written into the row's `match`. -/
theorem test_decode_MulPackMsw_rv32_a : Reads .rv32
    [(0xa0ea8577#32, .smul16 10#5 21#5 14#5),
     (0xa2ea8577#32, .smulx16 10#5 21#5 14#5),
     (0xb0ea8577#32, .umul16 10#5 21#5 14#5),
     (0xb2ea8577#32, .umulx16 10#5 21#5 14#5),
     (0x86ea8577#32, .khm16 10#5 21#5 14#5),
     (0x96ea8577#32, .khmx16 10#5 21#5 14#5),
     (0xa8ea8577#32, .smul8 10#5 21#5 14#5),
     (0xaaea8577#32, .smulx8 10#5 21#5 14#5),
     (0xb8ea8577#32, .umul8 10#5 21#5 14#5),
     (0xbaea8577#32, .umulx8 10#5 21#5 14#5),
     (0x8eea8577#32, .khm8 10#5 21#5 14#5),
     (0x9eea8577#32, .khmx8 10#5 21#5 14#5),
     (0x1eea9577#32, .pkbt16 10#5 21#5 14#5),
     (0x3eea9577#32, .pktb16 10#5 21#5 14#5),
     (0x02ea9533#32, .smmulRv32 10#5 21#5 14#5),
     (0x50ea9577#32, .smmulU 10#5 21#5 14#5),
     (0x60ea9577#32, .kmmac 10#5 21#5 14#5),
     (0x70ea9577#32, .kmmacU 10#5 21#5 14#5),
     (0x42ea9577#32, .kmmsb 10#5 21#5 14#5),
     (0x52ea9577#32, .kmmsbU 10#5 21#5 14#5),
     (0x62ea9577#32, .kwmmul 10#5 21#5 14#5),
     (0x72ea9577#32, .kwmmulU 10#5 21#5 14#5),
     (0x44ea9577#32, .smmwb 10#5 21#5 14#5),
     (0x54ea9577#32, .smmwbU 10#5 21#5 14#5),
     (0x64ea9577#32, .smmwt 10#5 21#5 14#5),
     (0x74ea9577#32, .smmwtU 10#5 21#5 14#5),
     (0x46ea9577#32, .kmmawb 10#5 21#5 14#5),
     (0x56ea9577#32, .kmmawbU 10#5 21#5 14#5),
     (0x66ea9577#32, .kmmawt 10#5 21#5 14#5),
     (0x76ea9577#32, .kmmawtU 10#5 21#5 14#5),
     (0x8eea9577#32, .kmmwb2 10#5 21#5 14#5),
     (0x9eea9577#32, .kmmwb2U 10#5 21#5 14#5)] := rfl

/-- Words of 44_simd_mul_pack_msw.md, the operand fields written into the row's `match`. -/
theorem test_decode_MulPackMsw_rv32_b : Reads .rv32
    [(0xaeea9577#32, .kmmwt2 10#5 21#5 14#5),
     (0xbeea9577#32, .kmmwt2U 10#5 21#5 14#5),
     (0xceea9577#32, .kmmawb2 10#5 21#5 14#5),
     (0xdeea9577#32, .kmmawb2U 10#5 21#5 14#5),
     (0xeeea9577#32, .kmmawt2 10#5 21#5 14#5),
     (0xfeea9577#32, .kmmawt2U 10#5 21#5 14#5)] := rfl

/-- Words of 44_simd_mul_pack_msw.md, the operand fields written into the row's `match`. -/
theorem test_decode_MulPackMsw_rv64 : Reads .rv64
    [(0x0eea9577#32, .pkbb16 10#5 21#5 14#5),
     (0x2eea9577#32, .pktt16 10#5 21#5 14#5),
     (0x40ea9577#32, .smmul 10#5 21#5 14#5)] := rfl

/-- Words of 45_partial_simd_mul16.md, the operand fields written into the row's `match`. -/
theorem test_decode_PartialSimd_rv32 : Reads .rv32
    [(0x08ea9577#32, .smbb16 10#5 21#5 14#5),
     (0x18ea9577#32, .smbt16 10#5 21#5 14#5),
     (0x28ea9577#32, .smtt16 10#5 21#5 14#5),
     (0x38ea9577#32, .kmda 10#5 21#5 14#5),
     (0x3aea9577#32, .kmxda 10#5 21#5 14#5),
     (0x58ea9577#32, .smds 10#5 21#5 14#5),
     (0x68ea9577#32, .smdrs 10#5 21#5 14#5),
     (0x78ea9577#32, .smxds 10#5 21#5 14#5),
     (0x5aea9577#32, .kmabb 10#5 21#5 14#5),
     (0x6aea9577#32, .kmabt 10#5 21#5 14#5),
     (0x7aea9577#32, .kmatt 10#5 21#5 14#5),
     (0x48ea9577#32, .kmada 10#5 21#5 14#5),
     (0x4aea9577#32, .kmaxda 10#5 21#5 14#5),
     (0x5cea9577#32, .kmads 10#5 21#5 14#5),
     (0x6cea9577#32, .kmadrs 10#5 21#5 14#5),
     (0x7cea9577#32, .kmaxds 10#5 21#5 14#5),
     (0x4cea9577#32, .kmsda 10#5 21#5 14#5),
     (0x4eea9577#32, .kmsxda 10#5 21#5 14#5),
     (0x5eea9577#32, .smal 10#5 21#5 14#5),
     (0xe55a8577#32, .sclip32 10#5 21#5 21#5),
     (0xf55a8577#32, .uclip32 10#5 21#5 21#5),
     (0xaf8a8577#32, .clrs32 10#5 21#5),
     (0xfcea8577#32, .pbsad 10#5 21#5 14#5),
     (0xfeea8577#32, .pbsada 10#5 21#5 14#5),
     (0xc8ea8577#32, .smaqa 10#5 21#5 14#5),
     (0xccea8577#32, .umaqa 10#5 21#5 14#5),
     (0xcaea8577#32, .smaqaSu 10#5 21#5 14#5)] := rfl

/-- Words of 45_partial_simd_mul16.md, the operand fields written into the row's `match`. -/
theorem test_decode_PartialSimd_rv64 : Reads .rv64
    [(0xaf9a8577#32, .clz32 10#5 21#5)] := rfl

/-- Words of 46_64bit_profile.md, the operand fields written into the row's `match`. -/
theorem test_decode_Profile64_rv32 : Reads .rv32
    [(0xc0ea9577#32, .add64 10#5 21#5 14#5),
     (0x80ea9577#32, .radd64 10#5 21#5 14#5),
     (0xa0ea9577#32, .uradd64 10#5 21#5 14#5),
     (0x90ea9577#32, .kadd64 10#5 21#5 14#5),
     (0xb0ea9577#32, .ukadd64 10#5 21#5 14#5),
     (0xc2ea9577#32, .sub64 10#5 21#5 14#5),
     (0x82ea9577#32, .rsub64 10#5 21#5 14#5),
     (0xa2ea9577#32, .ursub64 10#5 21#5 14#5),
     (0x92ea9577#32, .ksub64 10#5 21#5 14#5),
     (0xb2ea9577#32, .uksub64 10#5 21#5 14#5),
     (0x84ea9577#32, .smar64 10#5 21#5 14#5),
     (0x86ea9577#32, .smsr64 10#5 21#5 14#5),
     (0xa4ea9577#32, .umar64 10#5 21#5 14#5),
     (0xa6ea9577#32, .umsr64 10#5 21#5 14#5),
     (0x94ea9577#32, .kmar64 10#5 21#5 14#5),
     (0x96ea9577#32, .kmsr64 10#5 21#5 14#5),
     (0xb4ea9577#32, .ukmar64 10#5 21#5 14#5),
     (0xb6ea9577#32, .ukmsr64 10#5 21#5 14#5),
     (0x88ea9577#32, .smalbb 10#5 21#5 14#5),
     (0x98ea9577#32, .smalbt 10#5 21#5 14#5),
     (0xa8ea9577#32, .smaltt 10#5 21#5 14#5),
     (0x8cea9577#32, .smalda 10#5 21#5 14#5),
     (0x9cea9577#32, .smalxda 10#5 21#5 14#5),
     (0x8aea9577#32, .smalds 10#5 21#5 14#5),
     (0x9aea9577#32, .smaldrs 10#5 21#5 14#5),
     (0xaaea9577#32, .smalxds 10#5 21#5 14#5),
     (0xacea9577#32, .smslda 10#5 21#5 14#5),
     (0xbcea9577#32, .smslxda 10#5 21#5 14#5)] := rfl

/-- Words of 47_nonsimd.md, the operand fields written into the row's `match`. -/
theorem test_decode_NonSimd_rv32_a : Reads .rv32
    [(0x04ea9577#32, .kaddh 10#5 21#5 14#5),
     (0x06ea9577#32, .ksubh 10#5 21#5 14#5),
     (0x14ea9577#32, .ukaddh 10#5 21#5 14#5),
     (0x16ea9577#32, .uksubh 10#5 21#5 14#5),
     (0x0cea9577#32, .khmbb 10#5 21#5 14#5),
     (0x1cea9577#32, .khmbt 10#5 21#5 14#5),
     (0x2cea9577#32, .khmtt 10#5 21#5 14#5),
     (0x00ea9577#32, .kaddw 10#5 21#5 14#5),
     (0x10ea9577#32, .ukaddw 10#5 21#5 14#5),
     (0x02ea9577#32, .ksubw 10#5 21#5 14#5),
     (0x12ea9577#32, .uksubw 10#5 21#5 14#5),
     (0x0aea9577#32, .kdmbb 10#5 21#5 14#5),
     (0x1aea9577#32, .kdmbt 10#5 21#5 14#5),
     (0x2aea9577#32, .kdmtt 10#5 21#5 14#5),
     (0x6eea9577#32, .kslraw 10#5 21#5 14#5),
     (0x7eea9577#32, .kslrawU 10#5 21#5 14#5),
     (0x26ea9577#32, .ksllw 10#5 21#5 14#5),
     (0x375a9577#32, .kslliw 10#5 21#5 21#5),
     (0xd2ea9577#32, .kdmabb 10#5 21#5 14#5),
     (0xe2ea9577#32, .kdmabt 10#5 21#5 14#5),
     (0xf2ea9577#32, .kdmatt 10#5 21#5 14#5),
     (0xad4a8577#32, .kabsw 10#5 21#5),
     (0x20ea9577#32, .raddw 10#5 21#5 14#5),
     (0x30ea9577#32, .uraddw 10#5 21#5 14#5),
     (0x22ea9577#32, .rsubw 10#5 21#5 14#5),
     (0x32ea9577#32, .ursubw 10#5 21#5 14#5),
     (0xf0ea9577#32, .mulr64 10#5 21#5 14#5),
     (0xe0ea9577#32, .mulsr64 10#5 21#5 14#5),
     (0xc6ea9577#32, .msubr32 10#5 21#5 14#5),
     (0xe0ea8577#32, .ave 10#5 21#5 14#5),
     (0x24ea9577#32, .sraU 10#5 21#5 14#5),
     (0xe6ea8577#32, .bitrev 10#5 21#5 14#5)] := rfl

/-- Words of 47_nonsimd.md, the operand fields written into the row's `match`. -/
theorem test_decode_NonSimd_rv32_b : Reads .rv32
    [(0xe95a8577#32, .bitreviRv32 10#5 21#5 21#5),
     (0xd55a9577#32, .sraiURv32 10#5 21#5 21#5),
     (0xac2a8577#32, .insbRv32 10#5 21#5 2#2),
     (0xceea8577#32, .wext 10#5 21#5 14#5),
     (0xdf5a8577#32, .wexti 10#5 21#5 21#5),
     (0xc4ea9577#32, .maddr32 10#5 21#5 14#5)] := rfl

/-- Words of 47_nonsimd.md, the operand fields written into the row's `match`. -/
theorem test_decode_NonSimd_rv64 : Reads .rv64
    [(0xeada8577#32, .bitreviRv64 10#5 21#5 45#6),
     (0xd6da9577#32, .sraiURv64 10#5 21#5 45#6),
     (0xac5a8577#32, .insbRv64 10#5 21#5 5#3)] := rfl

/-- Words of 48_rv64_addsub_shift.md, the operand fields written into the row's `match`. -/
theorem test_decode_Rv64AddSubShift_rv64_a : Reads .rv64
    [(0x40eaa577#32, .add32 10#5 21#5 14#5),
     (0x00eaa577#32, .radd32 10#5 21#5 14#5),
     (0x20eaa577#32, .uradd32 10#5 21#5 14#5),
     (0x10eaa577#32, .kadd32 10#5 21#5 14#5),
     (0x30eaa577#32, .ukadd32 10#5 21#5 14#5),
     (0x42eaa577#32, .sub32 10#5 21#5 14#5),
     (0x02eaa577#32, .rsub32 10#5 21#5 14#5),
     (0x22eaa577#32, .ursub32 10#5 21#5 14#5),
     (0x12eaa577#32, .ksub32 10#5 21#5 14#5),
     (0x32eaa577#32, .uksub32 10#5 21#5 14#5),
     (0x44eaa577#32, .cras32 10#5 21#5 14#5),
     (0x04eaa577#32, .rcras32 10#5 21#5 14#5),
     (0x24eaa577#32, .urcras32 10#5 21#5 14#5),
     (0x14eaa577#32, .kcras32 10#5 21#5 14#5),
     (0x34eaa577#32, .ukcras32 10#5 21#5 14#5),
     (0x46eaa577#32, .crsa32 10#5 21#5 14#5),
     (0x06eaa577#32, .rcrsa32 10#5 21#5 14#5),
     (0x26eaa577#32, .urcrsa32 10#5 21#5 14#5),
     (0x16eaa577#32, .kcrsa32 10#5 21#5 14#5),
     (0x36eaa577#32, .ukcrsa32 10#5 21#5 14#5),
     (0xf0eaa577#32, .stas32 10#5 21#5 14#5),
     (0xb0eaa577#32, .rstas32 10#5 21#5 14#5),
     (0xd0eaa577#32, .urstas32 10#5 21#5 14#5),
     (0xc0eaa577#32, .kstas32 10#5 21#5 14#5),
     (0xe0eaa577#32, .ukstas32 10#5 21#5 14#5),
     (0xf2eaa577#32, .stsa32 10#5 21#5 14#5),
     (0xb2eaa577#32, .rstsa32 10#5 21#5 14#5),
     (0xd2eaa577#32, .urstsa32 10#5 21#5 14#5),
     (0xc2eaa577#32, .kstsa32 10#5 21#5 14#5),
     (0xe2eaa577#32, .ukstsa32 10#5 21#5 14#5),
     (0x50eaa577#32, .sra32 10#5 21#5 14#5),
     (0x715aa577#32, .srai32 10#5 21#5 21#5)] := rfl

/-- Words of 48_rv64_addsub_shift.md, the operand fields written into the row's `match`. -/
theorem test_decode_Rv64AddSubShift_rv64_b : Reads .rv64
    [(0x60eaa577#32, .sra32U 10#5 21#5 14#5),
     (0x815aa577#32, .srai32U 10#5 21#5 21#5),
     (0x52eaa577#32, .srl32 10#5 21#5 14#5),
     (0x735aa577#32, .srli32 10#5 21#5 21#5),
     (0x62eaa577#32, .srl32U 10#5 21#5 14#5),
     (0x835aa577#32, .srli32U 10#5 21#5 21#5),
     (0x54eaa577#32, .sll32 10#5 21#5 14#5),
     (0x755aa577#32, .slli32 10#5 21#5 21#5),
     (0x64eaa577#32, .ksll32 10#5 21#5 14#5),
     (0x855aa577#32, .kslli32 10#5 21#5 21#5),
     (0x56eaa577#32, .kslra32 10#5 21#5 14#5),
     (0x66eaa577#32, .kslra32U 10#5 21#5 14#5)] := rfl

/-- Words of 49_rv64_misc_mul.md, the operand fields written into the row's `match`. -/
theorem test_decode_Rv64MiscMul_rv64_a : Reads .rv64
    [(0x90eaa577#32, .smin32 10#5 21#5 14#5),
     (0xa0eaa577#32, .umin32 10#5 21#5 14#5),
     (0x92eaa577#32, .smax32 10#5 21#5 14#5),
     (0xa2eaa577#32, .umax32 10#5 21#5 14#5),
     (0xad2a8577#32, .kabs32 10#5 21#5),
     (0xdcea9577#32, .khmbb16 10#5 21#5 14#5),
     (0xecea9577#32, .khmbt16 10#5 21#5 14#5),
     (0xfcea9577#32, .khmtt16 10#5 21#5 14#5),
     (0xdaea9577#32, .kdmbb16 10#5 21#5 14#5),
     (0xeaea9577#32, .kdmbt16 10#5 21#5 14#5),
     (0xfaea9577#32, .kdmtt16 10#5 21#5 14#5),
     (0xd8ea9577#32, .kdmabb16 10#5 21#5 14#5),
     (0xe8ea9577#32, .kdmabt16 10#5 21#5 14#5),
     (0xf8ea9577#32, .kdmatt16 10#5 21#5 14#5),
     (0x18eaa577#32, .smbt32 10#5 21#5 14#5),
     (0x28eaa577#32, .smtt32 10#5 21#5 14#5),
     (0x5aeaa577#32, .kmabb32 10#5 21#5 14#5),
     (0x6aeaa577#32, .kmabt32 10#5 21#5 14#5),
     (0x7aeaa577#32, .kmatt32 10#5 21#5 14#5),
     (0x38eaa577#32, .kmda32 10#5 21#5 14#5),
     (0x3aeaa577#32, .kmxda32 10#5 21#5 14#5),
     (0x4aeaa577#32, .kmaxda32 10#5 21#5 14#5),
     (0x5ceaa577#32, .kmads32 10#5 21#5 14#5),
     (0x6ceaa577#32, .kmadrs32 10#5 21#5 14#5),
     (0x7ceaa577#32, .kmaxds32 10#5 21#5 14#5),
     (0x4ceaa577#32, .kmsda32 10#5 21#5 14#5),
     (0x4eeaa577#32, .kmsxda32 10#5 21#5 14#5),
     (0x58eaa577#32, .smds32 10#5 21#5 14#5),
     (0x68eaa577#32, .smdrs32 10#5 21#5 14#5),
     (0x78eaa577#32, .smxds32 10#5 21#5 14#5),
     (0x355a9577#32, .sraiwU 10#5 21#5 21#5),
     (0x1eeaa577#32, .pkbt32 10#5 21#5 14#5)] := rfl

/-- Words of 49_rv64_misc_mul.md, the operand fields written into the row's `match`. -/
theorem test_decode_Rv64MiscMul_rv64_b : Reads .rv64
    [(0x3eeaa577#32, .pktb32 10#5 21#5 14#5)] := rfl

/-- R79: the words of SMBB32, KMADA32, PKBB32 and PKTT32 are read as MULSR64, KMAR64, PACK and PACKU. -/
theorem test_decode_shared : Reads .rv64
    [(encode (.smbb32 10#5 21#5 14#5), .mulsr64 10#5 21#5 14#5), (encode (.kmada32 10#5 21#5 14#5), .kmar64 10#5 21#5 14#5),
     (encode (.pkbb32 10#5 21#5 14#5), .pack 10#5 14#5 21#5), (encode (.pktt32 10#5 21#5 14#5), .packu 10#5 14#5 21#5)] := rfl

/-- 95_test_vectors.md section 3.1: words that are no instruction of the width. -/
theorem test_decode_illegal :
    decode .rv64 0x60031293#32 = none ∧ decode .rv64 0xC0E61577#32 = none ∧ decode .rv32 0x107322F7#32 = none ∧
      decode .rv32 0xD60312F7#32 = none ∧ decode .rv32 0xAC4302F7#32 = none := ⟨rfl, rfl, rfl, rfl, rfl⟩

/-! The spec's vectors, one step each. -/

/-- The state after reset at a width, with a word at the pc and some registers set. -/
def start (x : Xlen) (w : Nat) (regs : List (Nat × Nat)) : State :=
  let s := State.resetWith { Config.default with xlen := x, keepReplaced := true }
  let t := regs.foldl (fun s p => s.setX (BitVec.ofNat 5 p.1) (BitVec.ofNat 64 p.2)) s
  { t with mem := Memory.write [] s.pc.toNat 4 w }

/-- The step of the word completes with these registers and this `OV`. -/
def gives (x : Xlen) (w : Nat) (regs result : List (Nat × Nat)) (ov : Bool) : Bool :=
  match step (start x w regs) with
  | .next t => result.all (fun p => (t.x (BitVec.ofNat 5 p.1)).toNat == p.2) && t.ov == ov
  | _ => false

/-- Every check holds. -/
def allTrue (l : List Bool) : Bool := l.all id


/-- One vector for each instruction of 40_zbpbo.md, from its `Ex:` lines or 95_test_vectors.md section 2. -/
theorem test_vectors_Zbpbo : allTrue
    [gives .rv32 0x60031293 [(6, 0x0)] [(5, 0x20)] false,
     gives .rv64 0x467312b3 [(6, 0x1111111111111111), (7, 0xff00ff00ff00ff00), (8, 0x2222222222222222)] [(5, 0x1122112211221122)] false,
     gives .rv32 0x447352b3 [(7, 0xffffffc4), (6, 0x11223344), (8, 0xaabbccdd)] [(5, 0xd1122334)] false,
     gives .rv32 0x46435293 [(6, 0x11223344), (8, 0xaabbccdd)] [(5, 0x4aabbccd)] false,
     gives .rv64 0x447352bb [(6, 0xdeadbeef11223344), (8, 0xcafef00daabbccdd), (7, 0x28)] [(5, 0x44aabbcc)] false,
     gives .rv64 0x0a7362b3 [(6, 0x80000000), (7, 0x7fffffff)] [(5, 0x80000000)] false,
     gives .rv64 0x0a7342b3 [(6, 0x80000000), (7, 0x7fffffff)] [(5, 0x7fffffff)] false,
     gives .rv64 0x087342b3 [(6, 0x1111111122222222), (7, 0x3333333344444444)] [(5, 0x4444444422222222)] false,
     gives .rv64 0x487342b3 [(6, 0x1111111122222222), (7, 0x3333333344444444)] [(5, 0x3333333311111111)] false,
     gives .rv32 0x69f35293 [(6, 0x12345678)] [(5, 0x1e6a2c48)] false,
     gives .rv64 0x68835293 [(6, 0x123456789abcdef)] [(5, 0x23016745ab89efcd)] false] = true := by decide +kernel

/-- One vector for each instruction of 41_simd_addsub16.md, from its `Ex:` lines or 95_test_vectors.md section 2. -/
theorem test_vectors_AddSub16_a : allTrue
    [gives .rv64 0x407302f7 [(6, 0x7fff8000ffff0001), (7, 0x17fff0001ffff)] [(5, 0x8000ffff00000000)] false,
     gives .rv64 0x007302f7 [(6, 0x7fff8000ffff0001), (7, 0x17fff0001ffff)] [(5, 0x4000ffff00000000)] false,
     gives .rv64 0x207302f7 [(6, 0x7fff8000ffff0001), (7, 0x17fff0001ffff)] [(5, 0x40007fff80008000)] false,
     gives .rv64 0x107302f7 [(6, 0x7fff8000ffff0001), (7, 0x17fff0001ffff)] [(5, 0x7fffffff00000000)] true,
     gives .rv64 0x307302f7 [(6, 0x7fff8000ffff0001), (7, 0x17fff0001ffff)] [(5, 0x8000ffffffffffff)] true,
     gives .rv64 0x427302f7 [(6, 0x7fff8000ffff0001), (7, 0x17fff0001ffff)] [(5, 0x7ffe0001fffe0002)] false,
     gives .rv64 0x027302f7 [(6, 0x7fff8000ffff0001), (7, 0x17fff0001ffff)] [(5, 0x3fff8000ffff0001)] false,
     gives .rv64 0x227302f7 [(6, 0x7fff8000ffff0001), (7, 0x17fff0001ffff)] [(5, 0x3fff00007fff8001)] false,
     gives .rv64 0x127302f7 [(6, 0x7fff8000ffff0001), (7, 0x17fff0001ffff)] [(5, 0x7ffe8000fffe0002)] true,
     gives .rv64 0x327302f7 [(6, 0x7fff8000ffff0001), (7, 0x17fff0001ffff)] [(5, 0x7ffe0001fffe0000)] true,
     gives .rv64 0x447302f7 [(6, 0x7fff8000ffff0001), (7, 0x17fff0001ffff)] [(5, 0xfffe7ffffffe0000)] false,
     gives .rv64 0x047302f7 [(6, 0x7fff8000ffff0001), (7, 0x17fff0001ffff)] [(5, 0x7fffbfffffff0000)] false,
     gives .rv64 0x247302f7 [(6, 0x7fff8000ffff0001), (7, 0x17fff0001ffff)] [(5, 0x7fff3fffffff0000)] false,
     gives .rv64 0x147302f7 [(6, 0x7fff8000ffff0001), (7, 0x17fff0001ffff)] [(5, 0x7fff8000fffe0000)] true,
     gives .rv64 0x347302f7 [(6, 0x7fff8000ffff0001), (7, 0x17fff0001ffff)] [(5, 0xfffe7fffffff0000)] true,
     gives .rv64 0x467302f7 [(6, 0x7fff8000ffff0001), (7, 0x17fff0001ffff)] [(5, 0x800100000002)] false,
     gives .rv64 0x067302f7 [(6, 0x7fff8000ffff0001), (7, 0x17fff0001ffff)] [(5, 0xc00000000001)] false,
     gives .rv64 0x267302f7 [(6, 0x7fff8000ffff0001), (7, 0x17fff0001ffff)] [(5, 0x400000000001)] false,
     gives .rv32 0x167302f7 [(6, 0x80000001), (7, 0x7fff0002)] [(5, 0x80007fff)] true,
     gives .rv32 0x367302f7 [(6, 0xc0004000), (7, 0xd000c001)] [(5, 0xffff)] true] = true := by decide +kernel

/-- One vector for each instruction of 41_simd_addsub16.md, from its `Ex:` lines or 95_test_vectors.md section 2. -/
theorem test_vectors_AddSub16_b : allTrue
    [gives .rv64 0xf47322f7 [(6, 0x7fff8000ffff0001), (7, 0x17fff0001ffff)] [(5, 0x8000000100000002)] false,
     gives .rv64 0xb47322f7 [(6, 0x7fff8000ffff0001), (7, 0x17fff0001ffff)] [(5, 0x4000800000000001)] false,
     gives .rv64 0xd47322f7 [(6, 0x7fff8000ffff0001), (7, 0x17fff0001ffff)] [(5, 0x4000000080008001)] false,
     gives .rv64 0xc47322f7 [(6, 0x7fff8000ffff0001), (7, 0x17fff0001ffff)] [(5, 0x7fff800000000002)] true,
     gives .rv64 0xe47322f7 [(6, 0x7fff8000ffff0001), (7, 0x17fff0001ffff)] [(5, 0x80000001ffff0000)] true,
     gives .rv64 0xf67322f7 [(6, 0x7fff8000ffff0001), (7, 0x17fff0001ffff)] [(5, 0x7ffefffffffe0000)] false,
     gives .rv64 0xb67322f7 [(6, 0x7fff8000ffff0001), (7, 0x17fff0001ffff)] [(5, 0x3fffffffffff0000)] false,
     gives .rv64 0xd67322f7 [(6, 0x7fff8000ffff0001), (7, 0x17fff0001ffff)] [(5, 0x3fff7fff7fff8000)] false,
     gives .rv32 0xc67322f7 [(6, 0x80000001), (7, 0x7fff0002)] [(5, 0x80000003)] true,
     gives .rv64 0xe67322f7 [(6, 0x7fff8000ffff0001), (7, 0x17fff0001ffff)] [(5, 0x7ffefffffffeffff)] true] = true := by decide +kernel

/-- One vector for each instruction of 42_simd_addsub8_shift.md, from its `Ex:` lines or 95_test_vectors.md section 2. -/
theorem test_vectors_AddSub8Shift_a : allTrue
    [gives .rv64 0x487302f7 [(6, 0x7f80ff0180c04081), (7, 0x17f01ff7fd0c101)] [(5, 0x80ff0000ff900182)] false,
     gives .rv64 0x087302f7 [(6, 0x7f80ff0180c04081), (7, 0x17f01ff7fd0c101)] [(5, 0x40ff0000ffc800c1)] false,
     gives .rv64 0x287302f7 [(6, 0x7f80ff0180c04081), (7, 0x17f01ff7fd0c101)] [(5, 0x407f80807fc88041)] false,
     gives .rv64 0x187302f7 [(6, 0x7f80ff0180c04081), (7, 0x17f01ff7fd0c101)] [(5, 0x7fff0000ff900182)] true,
     gives .rv64 0x387302f7 [(6, 0x7f80ff0180c04081), (7, 0x17f01ff7fd0c101)] [(5, 0x80ffffffffffff82)] true,
     gives .rv64 0x4a7302f7 [(6, 0x7f80ff0180c04081), (7, 0x17f01ff7fd0c101)] [(5, 0x7e01fe0201f07f80)] false,
     gives .rv64 0x0a7302f7 [(6, 0x7f80ff0180c04081), (7, 0x17f01ff7fd0c101)] [(5, 0x3f80ff0180f83fc0)] false,
     gives .rv64 0x2a7302f7 [(6, 0x7f80ff0180c04081), (7, 0x17f01ff7fd0c101)] [(5, 0x3f007f8100f8bf40)] false,
     gives .rv64 0x1a7302f7 [(6, 0x7f80ff0180c04081), (7, 0x17f01ff7fd0c101)] [(5, 0x7e80fe0280f07f80)] true,
     gives .rv64 0x3a7302f7 [(6, 0x7f80ff0180c04081), (7, 0x17f01ff7fd0c101)] [(5, 0x7e01fe0001000080)] true,
     gives .rv64 0x507302f7 [(6, 0x80037ffdffff0006), (7, 0x2)] [(5, 0xe0001fffffff0001)] false,
     gives .rv64 0x702302f7 [(6, 0x80037ffdffff0006)] [(5, 0xe0001fffffff0001)] false,
     gives .rv64 0x607302f7 [(6, 0x80037ffdffff0006), (7, 0x2)] [(5, 0xe0011fff00000002)] false,
     gives .rv64 0x712302f7 [(6, 0x80037ffdffff0006)] [(5, 0xe0011fff00000002)] false,
     gives .rv64 0x527302f7 [(6, 0x80037ffdffff0006), (7, 0x2)] [(5, 0x20001fff3fff0001)] false,
     gives .rv64 0x722302f7 [(6, 0x80037ffdffff0006)] [(5, 0x20001fff3fff0001)] false,
     gives .rv64 0x627302f7 [(6, 0x80037ffdffff0006), (7, 0x2)] [(5, 0x20011fff40000002)] false,
     gives .rv64 0x732302f7 [(6, 0x80037ffdffff0006)] [(5, 0x20011fff40000002)] false,
     gives .rv64 0x547302f7 [(6, 0x4000ffffc0000001), (7, 0x1)] [(5, 0x8000fffe80000002)] false,
     gives .rv64 0x741302f7 [(6, 0x4000ffffc0000001)] [(5, 0x8000fffe80000002)] false] = true := by decide +kernel

/-- One vector for each instruction of 42_simd_addsub8_shift.md, from its `Ex:` lines or 95_test_vectors.md section 2. -/
theorem test_vectors_AddSub8Shift_b : allTrue
    [gives .rv64 0x647302f7 [(6, 0x4000ffffc0000001), (7, 0x1)] [(5, 0x7ffffffe80000002)] true,
     gives .rv64 0x751302f7 [(6, 0x4000ffffc0000001)] [(5, 0x7ffffffe80000002)] true,
     gives .rv32 0x567302f7 [(6, 0x4000ffff), (7, 0x1)] [(5, 0x7ffffffe)] true,
     gives .rv32 0x667302f7 [(6, 0x4000ffff), (7, 0x1)] [(5, 0x7ffffffe)] true,
     gives .rv64 0x587302f7 [(6, 0x837dff0580407f01), (7, 0x2)] [(5, 0xe01fff01e0101f00)] false,
     gives .rv64 0x782302f7 [(6, 0x837dff0580407f01)] [(5, 0xe01fff01e0101f00)] false,
     gives .rv64 0x687302f7 [(6, 0x837dff0580407f01), (7, 0x2)] [(5, 0xe11f0001e0102000)] false,
     gives .rv64 0x78a302f7 [(6, 0x837dff0580407f01)] [(5, 0xe11f0001e0102000)] false,
     gives .rv64 0x5a7302f7 [(6, 0x837dff0580407f01), (7, 0x2)] [(5, 0x201f3f0120101f00)] false,
     gives .rv64 0x7a2302f7 [(6, 0x837dff0580407f01)] [(5, 0x201f3f0120101f00)] false,
     gives .rv64 0x6a7302f7 [(6, 0x837dff0580407f01), (7, 0x2)] [(5, 0x211f400120102000)] false,
     gives .rv64 0x7aa302f7 [(6, 0x837dff0580407f01)] [(5, 0x211f400120102000)] false,
     gives .rv64 0x5c7302f7 [(6, 0x40ffc02180013f7f), (7, 0x1)] [(5, 0x80fe804200027efe)] false,
     gives .rv64 0x7c1302f7 [(6, 0x40ffc02180013f7f)] [(5, 0x80fe804200027efe)] false,
     gives .rv64 0x6c7302f7 [(6, 0x40ffc02180013f7f), (7, 0x1)] [(5, 0x7ffe804280027e7f)] true,
     gives .rv64 0x7c9302f7 [(6, 0x40ffc02180013f7f)] [(5, 0x7ffe804280027e7f)] true,
     gives .rv32 0x5e7302f7 [(6, 0x40ffc021), (7, 0x1)] [(5, 0x7ffe8042)] true,
     gives .rv32 0x6e7302f7 [(6, 0x40ffc021), (7, 0x1)] [(5, 0x7ffe8042)] true] = true := by decide +kernel

/-- One vector for each instruction of 43_simd_cmp_misc_unpack.md, from its `Ex:` lines or 95_test_vectors.md section 2. -/
theorem test_vectors_CmpMiscUnpack_a : allTrue
    [gives .rv64 0x4c7302f7 [(6, 0x80007fffffff0001), (7, 0x7fff7fff00010001)] [(5, 0xffff0000ffff)] false,
     gives .rv64 0x0c7302f7 [(6, 0x80007fffffff0001), (7, 0x7fff7fff00010001)] [(5, 0xffff0000ffff0000)] false,
     gives .rv64 0x1c7302f7 [(6, 0x80007fffffff0001), (7, 0x7fff7fff00010001)] [(5, 0xffffffffffffffff)] false,
     gives .rv64 0x2c7302f7 [(6, 0x80007fffffff0001), (7, 0x7fff7fff00010001)] [(5, 0x0)] false,
     gives .rv64 0x3c7302f7 [(6, 0x80007fffffff0001), (7, 0x7fff7fff00010001)] [(5, 0xffff0000ffff)] false,
     gives .rv64 0x4e7302f7 [(6, 0x807f00ffff01fe80), (7, 0x7f7f01000101ff7f)] [(5, 0xff000000ff0000)] false,
     gives .rv64 0x0e7302f7 [(6, 0x807f00ffff01fe80), (7, 0x7f7f01000101ff7f)] [(5, 0xff00ffffff00ffff)] false,
     gives .rv64 0x1e7302f7 [(6, 0x807f00ffff01fe80), (7, 0x7f7f01000101ff7f)] [(5, 0xffffffffffffffff)] false,
     gives .rv64 0x2e7302f7 [(6, 0x807f00ffff01fe80), (7, 0x7f7f01000101ff7f)] [(5, 0xff000000ff00)] false,
     gives .rv64 0x3e7302f7 [(6, 0x807f00ffff01fe80), (7, 0x7f7f01000101ff7f)] [(5, 0xffff0000ffff00)] false,
     gives .rv64 0x807302f7 [(6, 0x80007fffffff0001), (7, 0x7fff80000001fffe)] [(5, 0x80008000fffffffe)] false,
     gives .rv64 0x907302f7 [(6, 0x80007fffffff0001), (7, 0x7fff80000001fffe)] [(5, 0x7fff7fff00010001)] false,
     gives .rv64 0x827302f7 [(6, 0x80007fffffff0001), (7, 0x7fff80000001fffe)] [(5, 0x7fff7fff00010001)] false,
     gives .rv64 0x927302f7 [(6, 0x80007fffffff0001), (7, 0x7fff80000001fffe)] [(5, 0x80008000fffffffe)] false,
     gives .rv64 0x843302f7 [(6, 0x7fff80000007fff8)] [(5, 0x7fff80007fff8)] true,
     gives .rv32 0x85f302f7 [(6, 0x7fff8000)] [(5, 0x7fff0000)] true,
     gives .rv64 0xad1302f7 [(6, 0x8000ffff7fff0001)] [(5, 0x7fff00017fff0001)] true,
     gives .rv64 0xae8302f7 [(6, 0x8000ffff7fff0001)] [(5, 0xf0000000e)] false,
     gives .rv64 0xae9302f7 [(6, 0x8000ffff7fff0001)] [(5, 0x1000f)] false,
     gives .rv64 0x1e6312f7 [(6, 0x123456789abcdef)] [(5, 0x45670123cdef89ab)] false] = true := by decide +kernel

/-- One vector for each instruction of 43_simd_cmp_misc_unpack.md, from its `Ex:` lines or 95_test_vectors.md section 2. -/
theorem test_vectors_CmpMiscUnpack_b : allTrue
    [gives .rv64 0x887302f7 [(6, 0x807f00ffff01fe80), (7, 0x7f80010001fffd81)] [(5, 0x808000fffffffd80)] false,
     gives .rv64 0x987302f7 [(6, 0x807f00ffff01fe80), (7, 0x7f80010001fffd81)] [(5, 0x7f7f00000101fd80)] false,
     gives .rv64 0x8a7302f7 [(6, 0x807f00ffff01fe80), (7, 0x7f80010001fffd81)] [(5, 0x7f7f01000101fe81)] false,
     gives .rv64 0x9a7302f7 [(6, 0x807f00ffff01fe80), (7, 0x7f80010001fffd81)] [(5, 0x808001fffffffe81)] false,
     gives .rv64 0xad0302f7 [(6, 0x80ff7f0100123cc3)] [(5, 0x7f017f0100123c3d)] true,
     gives .rv64 0x8c3302f7 [(6, 0x7f800708f8f7ff00)] [(5, 0x7f80707f8f8ff00)] true,
     gives .rv32 0x8d7302f7 [(6, 0x7f80ff55)] [(5, 0x7f000055)] true,
     gives .rv64 0xae0302f7 [(6, 0x80ff7f0100123cc3)] [(5, 0x7000607020101)] false,
     gives .rv64 0xae1302f7 [(6, 0x80ff7f0100123cc3)] [(5, 0x10708030200)] false,
     gives .rv64 0xac8302f7 [(6, 0x8877f6e5d4c3b2a1)] [(5, 0xfff6ffe5ffb2ffa1)] false,
     gives .rv64 0xac9302f7 [(6, 0x8877f6e5d4c3b2a1)] [(5, 0x77ffe5ffc3ffa1)] false,
     gives .rv64 0xaca302f7 [(6, 0x8877f6e5d4c3b2a1)] [(5, 0xff88ffe5ffd4ffa1)] false,
     gives .rv64 0xacb302f7 [(6, 0x8877f6e5d4c3b2a1)] [(5, 0xff88fff6ffd4ffb2)] false,
     gives .rv64 0xad3302f7 [(6, 0x8877f6e5d4c3b2a1)] [(5, 0xff880077ffd4ffc3)] false,
     gives .rv64 0xacc302f7 [(6, 0x8877f6e5d4c3b2a1)] [(5, 0xf600e500b200a1)] false,
     gives .rv64 0xacd302f7 [(6, 0x8877f6e5d4c3b2a1)] [(5, 0x7700e500c300a1)] false,
     gives .rv64 0xace302f7 [(6, 0x8877f6e5d4c3b2a1)] [(5, 0x8800e500d400a1)] false,
     gives .rv64 0xacf302f7 [(6, 0x8877f6e5d4c3b2a1)] [(5, 0x8800f600d400b2)] false,
     gives .rv64 0xad7302f7 [(6, 0x8877f6e5d4c3b2a1)] [(5, 0x88007700d400c3)] false] = true := by decide +kernel

/-- One vector for each instruction of 44_simd_mul_pack_msw.md, from its `Ex:` lines or 95_test_vectors.md section 2. -/
theorem test_vectors_MulPackMsw_a : allTrue
    [gives .rv64 0xa0730577 [(6, 0xdeadbeef80007fff), (7, 0x123456788000ffff)] [(10, 0x40000000ffff8001)] false,
     gives .rv64 0xa2730577 [(6, 0xdeadbeef80007fff), (7, 0x123456788000ffff)] [(10, 0x8000c0008000)] false,
     gives .rv64 0xb0730577 [(6, 0xdeadbeef80007fff), (7, 0x123456788000ffff)] [(10, 0x400000007ffe8001)] false,
     gives .rv64 0xb2730577 [(6, 0xdeadbeef80007fff), (7, 0x123456788000ffff)] [(10, 0x7fff80003fff8000)] false,
     gives .rv64 0x867302f7 [(6, 0x8000400080007fff), (7, 0x800040007fff8000)] [(5, 0x7fff200080018001)] true,
     gives .rv64 0x967302f7 [(6, 0x8000400080007fff), (7, 0x800040007fff8000)] [(5, 0xc000c0007fff7ffe)] true,
     gives .rv64 0xa8730577 [(6, 0xdeadbeef807fff02), (7, 0x1234567880ff0305)] [(10, 0x4000ff81fffd000a)] false,
     gives .rv64 0xaa730577 [(6, 0xdeadbeef807fff02), (7, 0x1234567880ff0305)] [(10, 0x80c080fffb0006)] false,
     gives .rv64 0xb8730577 [(6, 0xdeadbeef807fff02), (7, 0x1234567880ff0305)] [(10, 0x40007e8102fd000a)] false,
     gives .rv64 0xba730577 [(6, 0xdeadbeef807fff02), (7, 0x1234567880ff0305)] [(10, 0x7f803f8004fb0006)] false,
     gives .rv64 0x8e7302f7 [(6, 0x804080407f7f01ff), (7, 0x804040807f800101)] [(5, 0x7f20c0c07e8100ff)] true,
     gives .rv64 0x9e7302f7 [(6, 0x804080407f7f01ff), (7, 0x804040807f800101)] [(5, 0xc0c07f20817e00ff)] true,
     gives .rv64 0x0e7312f7 [(6, 0x1111222233334444), (7, 0x5555666677778888)] [(5, 0x2222666644448888)] false,
     gives .rv64 0x1e7312f7 [(6, 0x1111222233334444), (7, 0x5555666677778888)] [(5, 0x2222555544447777)] false,
     gives .rv64 0x2e7312f7 [(6, 0x1111222233334444), (7, 0x5555666677778888)] [(5, 0x1111555533337777)] false,
     gives .rv64 0x3e7312f7 [(6, 0x1111222233334444), (7, 0x5555666677778888)] [(5, 0x1111666633338888)] false,
     gives .rv64 0x407312f7 [(6, 0x8000000040000000), (7, 0x8000000040000000)] [(5, 0x4000000010000000)] false,
     gives .rv32 0x027312b3 [(6, 0x40000000), (7, 0x40000000)] [(5, 0x10000000)] false,
     gives .rv64 0x507312f7 [(6, 0x8000000040000000), (7, 0x8000000040000000)] [(5, 0x4000000010000000)] false,
     gives .rv64 0x607312f7 [(5, 0x7fffffff00000001), (6, 0x8000000040000000), (7, 0x8000000040000000)] [(5, 0x7fffffff10000001)] true] = true := by decide +kernel

/-- One vector for each instruction of 44_simd_mul_pack_msw.md, from its `Ex:` lines or 95_test_vectors.md section 2. -/
theorem test_vectors_MulPackMsw_b : allTrue
    [gives .rv64 0x707312f7 [(5, 0x7fffffff00000001), (6, 0x8000000040000000), (7, 0x8000000040000000)] [(5, 0x7fffffff10000001)] true,
     gives .rv32 0x427312f7 [(5, 0x80000000), (6, 0x40000000), (7, 0x40000000)] [(5, 0x80000000)] true,
     gives .rv32 0x527312f7 [(5, 0x80000000), (6, 0x40000000), (7, 0x40000000)] [(5, 0x80000000)] true,
     gives .rv64 0x627312f7 [(6, 0x8000000040000000), (7, 0x8000000040000000)] [(5, 0x7fffffff20000000)] true,
     gives .rv64 0x727312f7 [(6, 0x8000000040000000), (7, 0x8000000040000000)] [(5, 0x7fffffff20000000)] true,
     gives .rv64 0x447312f7 [(6, 0x8000000040000000), (7, 0x800000004000)] [(5, 0x4000000010000000)] false,
     gives .rv64 0x547312f7 [(6, 0x8000000040000000), (7, 0x800000004000)] [(5, 0x4000000010000000)] false,
     gives .rv64 0x647312f7 [(6, 0x8000000040000000), (7, 0x8000000040000000)] [(5, 0x4000000010000000)] false,
     gives .rv64 0x747312f7 [(6, 0x8000000040000000), (7, 0x8000000040000000)] [(5, 0x4000000010000000)] false,
     gives .rv64 0x467312f7 [(5, 0x7fffffff00000001), (6, 0x8000000040000000), (7, 0x800000004000)] [(5, 0x7fffffff10000001)] true,
     gives .rv64 0x567312f7 [(5, 0x7fffffff00000001), (6, 0x8000000040000000), (7, 0x800000004000)] [(5, 0x7fffffff10000001)] true,
     gives .rv64 0x667312f7 [(5, 0x7fffffff00000001), (6, 0x8000000040000000), (7, 0x8000000040000000)] [(5, 0x7fffffff10000001)] true,
     gives .rv64 0x767312f7 [(5, 0x7fffffff00000001), (6, 0x8000000040000000), (7, 0x8000000040000000)] [(5, 0x7fffffff10000001)] true,
     gives .rv64 0x8e7312f7 [(6, 0x8000000040000000), (7, 0x800000004000)] [(5, 0x7fffffff20000000)] true,
     gives .rv64 0x9e7312f7 [(6, 0x8000000040000000), (7, 0x800000004000)] [(5, 0x7fffffff20000000)] true,
     gives .rv64 0xae7312f7 [(6, 0x8000000040000000), (7, 0x8000000040000000)] [(5, 0x7fffffff20000000)] true,
     gives .rv64 0xbe7312f7 [(6, 0x8000000040000000), (7, 0x8000000040000000)] [(5, 0x7fffffff20000000)] true,
     gives .rv64 0xce7312f7 [(5, 0x7fffffff00000001), (6, 0x8000000040000000), (7, 0x800000004000)] [(5, 0x7fffffff20000001)] true,
     gives .rv64 0xde7312f7 [(5, 0x7fffffff00000001), (6, 0x8000000040000000), (7, 0x800000004000)] [(5, 0x7fffffff20000001)] true,
     gives .rv64 0xee7312f7 [(5, 0x7fffffff00000001), (6, 0x8000000040000000), (7, 0x8000000040000000)] [(5, 0x7fffffff20000001)] true] = true := by decide +kernel

/-- One vector for each instruction of 44_simd_mul_pack_msw.md, from its `Ex:` lines or 95_test_vectors.md section 2. -/
theorem test_vectors_MulPackMsw_c : allTrue
    [gives .rv64 0xfe7312f7 [(5, 0x7fffffff00000001), (6, 0x8000000040000000), (7, 0x8000000040000000)] [(5, 0x7fffffff20000001)] true] = true := by decide +kernel

/-- One vector for each instruction of 45_partial_simd_mul16.md, from its `Ex:` lines or 95_test_vectors.md section 2. -/
theorem test_vectors_PartialSimd_a : allTrue
    [gives .rv64 0x087312f7 [(6, 0x800080007fff7fff), (7, 0x8000800000020003)] [(5, 0x4000000000017ffd)] false,
     gives .rv64 0x187312f7 [(6, 0x800080007fff7fff), (7, 0x8000800000020003)] [(5, 0x400000000000fffe)] false,
     gives .rv64 0x287312f7 [(6, 0x800080007fff7fff), (7, 0x8000800000020003)] [(5, 0x400000000000fffe)] false,
     gives .rv64 0x387312f7 [(6, 0x800080007fff7fff), (7, 0x8000800000020003)] [(5, 0x7fffffff00027ffb)] true,
     gives .rv64 0x3a7312f7 [(6, 0x800080007fff7fff), (7, 0x8000800000020003)] [(5, 0x7fffffff00027ffb)] true,
     gives .rv64 0x587312f7 [(6, 0x800080007fff7fff), (7, 0x8000800000020003)] [(5, 0xffff8001)] false,
     gives .rv64 0x687312f7 [(6, 0x800080007fff7fff), (7, 0x8000800000020003)] [(5, 0x7fff)] false,
     gives .rv64 0x787312f7 [(6, 0x800080007fff7fff), (7, 0x8000800000020003)] [(5, 0x7fff)] false,
     gives .rv64 0x5a7312f7 [(5, 0x7fffffff00000001), (6, 0x800080007fff7fff), (7, 0x8000800000020003)] [(5, 0x7fffffff00017ffe)] true,
     gives .rv64 0x6a7312f7 [(5, 0x7fffffff00000001), (6, 0x800080007fff7fff), (7, 0x8000800000020003)] [(5, 0x7fffffff0000ffff)] true,
     gives .rv64 0x7a7312f7 [(5, 0x7fffffff00000001), (6, 0x800080007fff7fff), (7, 0x8000800000020003)] [(5, 0x7fffffff0000ffff)] true,
     gives .rv64 0x487312f7 [(5, 0x7fffffff00000001), (6, 0x800080007fff7fff), (7, 0x8000800000020003)] [(5, 0x7fffffff00027ffc)] true,
     gives .rv64 0x4a7312f7 [(5, 0x7fffffff00000001), (6, 0x800080007fff7fff), (7, 0x8000800000020003)] [(5, 0x7fffffff00027ffc)] true,
     gives .rv32 0x5c7312f7 [(5, 0x7fffffff), (6, 0x80007fff), (7, 0x80008000)] [(5, 0x7fffffff)] true,
     gives .rv32 0x6c7312f7 [(5, 0x7fffffff), (6, 0x7fff8000), (7, 0x80008000)] [(5, 0x7fffffff)] true,
     gives .rv32 0x7c7312f7 [(5, 0x7fffffff), (6, 0x80007fff), (7, 0x80008000)] [(5, 0x7fffffff)] true,
     gives .rv32 0x4c7312f7 [(5, 0x7fffffff), (6, 0x7fff8000), (7, 0x80007fff)] [(5, 0x7fffffff)] true,
     gives .rv32 0x4e7312f7 [(5, 0x80000000), (6, 0x80007fff), (7, 0x80008000)] [(5, 0x80000000)] true,
     gives .rv64 0x5e761577 [(12, 0x100000000), (7, 0x2000300040005)] [(10, 0x10000001a)] false,
     gives .rv64 0xe43302f7 [(6, 0xfffffff700000005)] [(5, 0xfffffff800000005)] true] = true := by decide +kernel

/-- One vector for each instruction of 45_partial_simd_mul16.md, from its `Ex:` lines or 95_test_vectors.md section 2. -/
theorem test_vectors_PartialSimd_b : allTrue
    [gives .rv32 0xf40302f7 [(6, 0x12345678)] [(5, 0x0)] true,
     gives .rv64 0xaf8302f7 [(6, 0xffff000040000000)] [(5, 0xf00000000)] false,
     gives .rv64 0xaf9302f7 [(6, 0xffff80000000)] [(5, 0x1000000000)] false,
     gives .rv32 0xfc7302f7 [(6, 0x1020304), (7, 0x4030201)] [(5, 0x8)] false,
     gives .rv32 0xfe7302f7 [(5, 0x12345678), (6, 0x80808080), (7, 0x80808080)] [(5, 0x12345678)] false,
     gives .rv64 0xc87302f7 [(5, 0x64), (6, 0x8080808001020304), (7, 0x8080808005060708)] [(5, 0x10000000000aa)] false,
     gives .rv64 0xcc7302f7 [(5, 0x64), (6, 0x8080808001020304), (7, 0x8080808005060708)] [(5, 0x10000000000aa)] false,
     gives .rv64 0xca7302f7 [(5, 0x64), (6, 0x8080808001020304), (7, 0x8080808005060708)] [(5, 0xffff0000000000aa)] false] = true := by decide +kernel

/-- One vector for each instruction of 46_64bit_profile.md, from its `Ex:` lines or 95_test_vectors.md section 2. -/
theorem test_vectors_Profile64_a : allTrue
    [gives .rv32 0xc0e61577 [(12, 0xffffffff), (13, 0x7fffffff), (14, 0x1), (15, 0x0)] [(10, 0x0), (11, 0x80000000)] false,
     gives .rv32 0x80e61577 [(12, 0xffffffff), (13, 0x7fffffff), (14, 0x1), (15, 0x0)] [(10, 0x0), (11, 0x40000000)] false,
     gives .rv32 0xa0e61577 [(12, 0xffffffff), (13, 0x7fffffff), (14, 0x0), (15, 0x80000000)] [(10, 0xffffffff), (11, 0x7fffffff)] false,
     gives .rv32 0x90e61577 [(12, 0xffffffff), (13, 0x7fffffff), (14, 0x1), (15, 0x0)] [(10, 0xffffffff), (11, 0x7fffffff)] true,
     gives .rv32 0xb0e61577 [(12, 0xffffffff), (13, 0xffffffff), (14, 0x1), (15, 0x0)] [(10, 0xffffffff), (11, 0xffffffff)] true,
     gives .rv32 0xc2e61577 [(12, 0xffffffff), (13, 0x7fffffff), (14, 0x1), (15, 0x0)] [(10, 0xfffffffe), (11, 0x7fffffff)] false,
     gives .rv32 0x82e61577 [(12, 0xffffffff), (13, 0x7fffffff), (14, 0x0), (15, 0x80000000)] [(10, 0xffffffff), (11, 0x7fffffff)] false,
     gives .rv32 0xa2e61577 [(12, 0xffffffff), (13, 0x7fffffff), (14, 0x1), (15, 0x0)] [(10, 0xffffffff), (11, 0x3fffffff)] false,
     gives .rv32 0x92e61577 [(12, 0xffffffff), (13, 0x7fffffff), (14, 0x0), (15, 0x80000000)] [(10, 0xffffffff), (11, 0x7fffffff)] true,
     gives .rv32 0xb2e61577 [(12, 0xffffffff), (13, 0x7fffffff), (14, 0x0), (15, 0x80000000)] [(10, 0x0), (11, 0x0)] true,
     gives .rv64 0x84731577 [(10, 0x7fffffffffffffff), (6, 0x8000000000000002), (7, 0x7fffffff00000001)] [(10, 0x4000000080000001)] false,
     gives .rv64 0x86731577 [(10, 0x7fffffffffffffff), (6, 0x8000000000000002), (7, 0x7fffffff00000001)] [(10, 0xbfffffff7ffffffd)] false,
     gives .rv64 0xa4731577 [(10, 0x7fffffffffffffff), (6, 0x8000000000000002), (7, 0x7fffffff00000001)] [(10, 0xbfffffff80000001)] false,
     gives .rv64 0xa6731577 [(10, 0x7fffffffffffffff), (6, 0x8000000000000002), (7, 0x7fffffff00000001)] [(10, 0x400000007ffffffd)] false,
     gives .rv64 0x947312f7 [(5, 0x8000000000000000), (6, 0x7fffffff80000000), (7, 0xffffffff00000002)] [(5, 0x8000000000000000)] true,
     gives .rv64 0x96731577 [(10, 0x7fffffffffffffff), (6, 0x8000000000000002), (7, 0x7fffffff00000001)] [(10, 0x7fffffffffffffff)] true,
     gives .rv32 0xb4731577 [(10, 0xffffffff), (11, 0xffffffff), (6, 0xffffffff), (7, 0xffffffff)] [(10, 0xffffffff), (11, 0xffffffff)] true,
     gives .rv64 0xb6731577 [(10, 0x1), (6, 0xffffffff00000001), (7, 0xffffffff00000002)] [(10, 0x0)] true,
     gives .rv32 0x88731577 [(10, 0xffffffff), (11, 0xffffffff), (6, 0x7fff8000), (7, 0x80007fff)] [(10, 0xc0007fff), (11, 0xffffffff)] false,
     gives .rv32 0x98731577 [(10, 0x0), (11, 0x80000000), (6, 0x7fff7fff), (7, 0x7fff7fff)] [(10, 0x3fff0001), (11, 0x80000000)] false] = true := by decide +kernel

/-- One vector for each instruction of 46_64bit_profile.md, from its `Ex:` lines or 95_test_vectors.md section 2. -/
theorem test_vectors_Profile64_b : allTrue
    [gives .rv32 0xa8731577 [(10, 0xffffffff), (11, 0xffffffff), (6, 0x7fff8000), (7, 0x80007fff)] [(10, 0xc0007fff), (11, 0xffffffff)] false,
     gives .rv32 0x8c731577 [(10, 0x0), (11, 0x80000000), (6, 0x7fff7fff), (7, 0x7fff7fff)] [(10, 0x7ffe0002), (11, 0x80000000)] false,
     gives .rv32 0x9c731577 [(10, 0x0), (11, 0x80000000), (6, 0x7fff7fff), (7, 0x7fff7fff)] [(10, 0x7ffe0002), (11, 0x80000000)] false,
     gives .rv32 0x8a731577 [(10, 0x0), (11, 0x1), (6, 0x20003), (7, 0xfffc0005)] [(10, 0xffffffe9), (11, 0x0)] false,
     gives .rv64 0x9a731577 [(10, 0x64), (6, 0x2000300040005), (7, 0x60007fff80009)] [(10, 0xba)] false,
     gives .rv64 0xaa731577 [(10, 0x64), (6, 0x2000300040005), (7, 0x60007fff80009)] [(10, 0xac)] false,
     gives .rv32 0xac731577 [(10, 0x0), (11, 0x80000000), (6, 0x7fff7fff), (7, 0x7fff7fff)] [(10, 0x8001fffe), (11, 0x7fffffff)] false,
     gives .rv32 0xbc731577 [(10, 0x0), (11, 0x80000000), (6, 0x7fff7fff), (7, 0x7fff7fff)] [(10, 0x8001fffe), (11, 0x7fffffff)] false] = true := by decide +kernel

/-- One vector for each instruction of 47_nonsimd.md, from its `Ex:` lines or 95_test_vectors.md section 2. -/
theorem test_vectors_NonSimd_a : allTrue
    [gives .rv64 0x047312f7 [(6, 0xffffffff00007fff), (7, 0x1234567800000001)] [(5, 0x7fff)] true,
     gives .rv32 0x067312f7 [(6, 0x8000), (7, 0x1)] [(5, 0xffff8000)] true,
     gives .rv32 0x147312f7 [(6, 0x8000), (7, 0xffff)] [(5, 0xffffffff)] true,
     gives .rv32 0x167312f7 [(6, 0x8000), (7, 0xffff)] [(5, 0x0)] true,
     gives .rv64 0x0c7312f7 [(6, 0xaaaaaaaa80008000), (7, 0x5555555580008000)] [(5, 0x7fff)] true,
     gives .rv64 0x1c7312f7 [(6, 0xaaaaaaaa80008000), (7, 0x5555555580008000)] [(5, 0x7fff)] true,
     gives .rv64 0x2c7312f7 [(6, 0xaaaaaaaa80008000), (7, 0x5555555580008000)] [(5, 0x7fff)] true,
     gives .rv64 0x007312f7 [(6, 0x123456787fffffff), (7, 0xffffffff00000001)] [(5, 0x7fffffff)] true,
     gives .rv32 0x107312f7 [(6, 0x80000000), (7, 0xffffffff)] [(5, 0xffffffff)] true,
     gives .rv32 0x027312f7 [(6, 0x80000000), (7, 0x1)] [(5, 0x80000000)] true,
     gives .rv32 0x127312f7 [(6, 0x80000000), (7, 0xffffffff)] [(5, 0x0)] true,
     gives .rv64 0x0a7312f7 [(6, 0xaaaaaaaa80008000), (7, 0x5555555580008000)] [(5, 0x7fffffff)] true,
     gives .rv64 0x1a7312f7 [(6, 0xaaaaaaaa80008000), (7, 0x5555555580008000)] [(5, 0x7fffffff)] true,
     gives .rv64 0x2a7312f7 [(6, 0xaaaaaaaa80008000), (7, 0x5555555580008000)] [(5, 0x7fffffff)] true,
     gives .rv64 0x6e7312f7 [(6, 0xffffffff40000000), (7, 0x1)] [(5, 0x7fffffff)] true,
     gives .rv64 0x7e7312f7 [(6, 0xffffffff40000000), (7, 0x1)] [(5, 0x7fffffff)] true,
     gives .rv64 0x267312f7 [(6, 0xffffffff40000000), (7, 0x1)] [(5, 0x7fffffff)] true,
     gives .rv64 0x361312f7 [(6, 0xffffffff40000000)] [(5, 0x7fffffff)] true,
     gives .rv64 0xd27312f7 [(5, 0x7fffffff), (6, 0x80008000), (7, 0x80008000)] [(5, 0x7fffffff)] true,
     gives .rv64 0xe27312f7 [(5, 0x7fffffff), (6, 0x80008000), (7, 0x80008000)] [(5, 0x7fffffff)] true] = true := by decide +kernel

/-- One vector for each instruction of 47_nonsimd.md, from its `Ex:` lines or 95_test_vectors.md section 2. -/
theorem test_vectors_NonSimd_b : allTrue
    [gives .rv64 0xf27312f7 [(5, 0x7fffffff), (6, 0x80008000), (7, 0x80008000)] [(5, 0x7fffffff)] true,
     gives .rv64 0xad4302f7 [(6, 0xffffffff80000000)] [(5, 0x7fffffff)] true,
     gives .rv64 0x207312f7 [(6, 0xaaaaaaaa80000000), (7, 0x5555555580000000)] [(5, 0xffffffff80000000)] false,
     gives .rv64 0x307312f7 [(6, 0xaaaaaaaa80000000), (7, 0x5555555580000000)] [(5, 0xffffffff80000000)] false,
     gives .rv64 0x227312f7 [(6, 0x40000000), (7, 0xffffffff80000000)] [(5, 0x60000000)] false,
     gives .rv64 0x327312f7 [(6, 0x40000000), (7, 0xffffffff80000000)] [(5, 0xffffffffe0000000)] false,
     gives .rv64 0xf0731577 [(6, 0x12345678ffffffff), (7, 0x9abcdef0ffffffff)] [(10, 0xfffffffe00000001)] false,
     gives .rv64 0xe0731577 [(6, 0x12345678ffffffff), (7, 0x9abcdef0ffffffff)] [(10, 0x1)] false,
     gives .rv64 0xc67312f7 [(5, 0x1234567800000064), (6, 0xaaaaaaaa00000003), (7, 0x5555555500000005)] [(5, 0x55)] false,
     gives .rv64 0xe07302f7 [(6, 0x7fffffffffffffff), (7, 0x7fffffffffffffff)] [(5, 0x7fffffffffffffff)] false,
     gives .rv32 0x247312f7 [(6, 0x12345678), (7, 0x20)] [(5, 0x12345678)] false,
     gives .rv64 0xe67302f7 [(6, 0x12345678), (7, 0x1f)] [(5, 0x1e6a2c48)] false,
     gives .rv32 0xe9f302f7 [(6, 0x12345678)] [(5, 0x1e6a2c48)] false,
     gives .rv64 0xe9f302f7 [(6, 0x12345678)] [(5, 0x1e6a2c48)] false,
     gives .rv32 0xd40312f7 [(6, 0x12345678)] [(5, 0x12345678)] false,
     gives .rv64 0xd60312f7 [(6, 0x100000000)] [(5, 0x1)] false,
     gives .rv32 0xac0302f7 [(5, 0x11223344), (6, 0xaabbccdd)] [(5, 0x112233dd)] false,
     gives .rv64 0xac4302f7 [(5, 0x1122334455667788), (6, 0xffffffffffffff00)] [(5, 0x1122330055667788)] false,
     gives .rv64 0xce7602f7 [(12, 0x89abcdef01234567), (7, 0x10)] [(5, 0xffffffffcdef0123)] false,
     gives .rv64 0xdf0602f7 [(12, 0x89abcdef01234567)] [(5, 0xffffffffcdef0123)] false] = true := by decide +kernel

/-- One vector for each instruction of 47_nonsimd.md, from its `Ex:` lines or 95_test_vectors.md section 2. -/
theorem test_vectors_NonSimd_c : allTrue
    [gives .rv64 0xc47312f7 [(5, 0x1234567800000064), (6, 0xaaaaaaaa00000003), (7, 0x5555555500000005)] [(5, 0x73)] false] = true := by decide +kernel

/-- One vector for each instruction of 48_rv64_addsub_shift.md, from its `Ex:` lines or 95_test_vectors.md section 2. -/
theorem test_vectors_Rv64AddSubShift_a : allTrue
    [gives .rv64 0x407322f7 [(6, 0x7fffffff80000000), (7, 0x17fffffff)] [(5, 0x80000000ffffffff)] false,
     gives .rv64 0x007322f7 [(6, 0x7fffffff80000000), (7, 0x17fffffff)] [(5, 0x40000000ffffffff)] false,
     gives .rv64 0x207322f7 [(6, 0x7fffffff80000000), (7, 0x17fffffff)] [(5, 0x400000007fffffff)] false,
     gives .rv64 0x107322f7 [(6, 0x7fffffff80000000), (7, 0x17fffffff)] [(5, 0x7fffffffffffffff)] true,
     gives .rv64 0x307322f7 [(6, 0xc000000040000000), (7, 0xd0000000c0000001)] [(5, 0xffffffffffffffff)] true,
     gives .rv64 0x427322f7 [(6, 0x7fffffff80000000), (7, 0x17fffffff)] [(5, 0x7ffffffe00000001)] false,
     gives .rv64 0x027322f7 [(6, 0x7fffffff80000000), (7, 0x17fffffff)] [(5, 0x3fffffff80000000)] false,
     gives .rv64 0x227322f7 [(6, 0xc000000040000000), (7, 0xd0000000c0000001)] [(5, 0xf8000000bfffffff)] false,
     gives .rv64 0x127322f7 [(6, 0x7fffffff80000000), (7, 0x17fffffff)] [(5, 0x7ffffffe80000000)] true,
     gives .rv64 0x327322f7 [(6, 0x8000000000000001), (7, 0x7fffffff00000002)] [(5, 0x100000000)] true,
     gives .rv64 0x447322f7 [(6, 0xc000000040000000), (7, 0xd0000000c0000001)] [(5, 0x8000000170000000)] false,
     gives .rv64 0x047322f7 [(6, 0xc000000040000000), (7, 0xd0000000c0000001)] [(5, 0xc000000038000000)] false,
     gives .rv64 0x247322f7 [(6, 0x8000000000000001), (7, 0x7fffffff00000002)] [(5, 0x40000001c0000001)] false,
     gives .rv64 0x147322f7 [(6, 0x7fffffff80000000), (7, 0x17fffffff)] [(5, 0x7fffffff80000000)] true,
     gives .rv64 0x347322f7 [(6, 0x8000000000000001), (7, 0x7fffffff00000002)] [(5, 0x8000000200000000)] true,
     gives .rv64 0x467322f7 [(6, 0x8000000000000001), (7, 0x7fffffff00000002)] [(5, 0x7ffffffe80000000)] false,
     gives .rv64 0x067322f7 [(6, 0x8000000000000001), (7, 0x7fffffff00000002)] [(5, 0xbfffffff40000000)] false,
     gives .rv64 0x267322f7 [(6, 0x8000000000000001), (7, 0x7fffffff00000002)] [(5, 0x3fffffff40000000)] false,
     gives .rv64 0x167322f7 [(6, 0x8000000000000001), (7, 0x7fffffff00000002)] [(5, 0x800000007fffffff)] true,
     gives .rv64 0x367322f7 [(6, 0xc000000040000000), (7, 0xd0000000c0000001)] [(5, 0xffffffff)] true] = true := by decide +kernel

/-- One vector for each instruction of 48_rv64_addsub_shift.md, from its `Ex:` lines or 95_test_vectors.md section 2. -/
theorem test_vectors_Rv64AddSubShift_b : allTrue
    [gives .rv64 0xf07322f7 [(6, 0xc000000040000000), (7, 0xd0000000c0000001)] [(5, 0x900000007fffffff)] false,
     gives .rv64 0xb07322f7 [(6, 0xc000000040000000), (7, 0xd0000000c0000001)] [(5, 0xc80000003fffffff)] false,
     gives .rv64 0xd07322f7 [(6, 0xc000000040000000), (7, 0xd0000000c0000001)] [(5, 0xc8000000bfffffff)] false,
     gives .rv64 0xc07322f7 [(6, 0x7fffffff80000000), (7, 0x17fffffff)] [(5, 0x7fffffff80000000)] true,
     gives .rv64 0xe07322f7 [(6, 0x8000000000000001), (7, 0x7fffffff00000002)] [(5, 0xffffffff00000000)] true,
     gives .rv64 0xf27322f7 [(6, 0x7fffffff80000000), (7, 0x17fffffff)] [(5, 0x7ffffffeffffffff)] false,
     gives .rv64 0xb27322f7 [(6, 0x8000000000000001), (7, 0x7fffffff00000002)] [(5, 0x8000000000000001)] false,
     gives .rv64 0xd27322f7 [(6, 0x7fffffff80000000), (7, 0x17fffffff)] [(5, 0x3fffffff7fffffff)] false,
     gives .rv64 0xc27322f7 [(6, 0x8000000000000001), (7, 0x7fffffff00000002)] [(5, 0x8000000000000003)] true,
     gives .rv64 0xe27322f7 [(6, 0xc000000040000000), (7, 0xd0000000c0000001)] [(5, 0xffffffff)] true,
     gives .rv64 0x507322f7 [(6, 0x837dff0580407f01), (7, 0xffffffffffffffe4)] [(5, 0xf837dff0f80407f0)] false,
     gives .rv64 0x704322f7 [(6, 0x837dff0580407f01)] [(5, 0xf837dff0f80407f0)] false,
     gives .rv64 0x607322f7 [(6, 0x837dff0580407f01), (7, 0xffffffffffffffe4)] [(5, 0xf837dff0f80407f0)] false,
     gives .rv64 0x804322f7 [(6, 0x837dff0580407f01)] [(5, 0xf837dff0f80407f0)] false,
     gives .rv64 0x527322f7 [(6, 0x837dff0580407f01), (7, 0xffffffffffffffe4)] [(5, 0x837dff0080407f0)] false,
     gives .rv64 0x724322f7 [(6, 0x837dff0580407f01)] [(5, 0x837dff0080407f0)] false,
     gives .rv64 0x627322f7 [(6, 0x837dff0580407f01), (7, 0xffffffffffffffe4)] [(5, 0x837dff0080407f0)] false,
     gives .rv64 0x824322f7 [(6, 0x837dff0580407f01)] [(5, 0x837dff0080407f0)] false,
     gives .rv64 0x547322f7 [(6, 0x837dff0580407f01), (7, 0xffffffffffffffe4)] [(5, 0x37dff0500407f010)] false,
     gives .rv64 0x744322f7 [(6, 0x837dff0580407f01)] [(5, 0x37dff0500407f010)] false] = true := by decide +kernel

/-- One vector for each instruction of 48_rv64_addsub_shift.md, from its `Ex:` lines or 95_test_vectors.md section 2. -/
theorem test_vectors_Rv64AddSubShift_c : allTrue
    [gives .rv64 0x647322f7 [(6, 0x837dff0580407f01), (7, 0xffffffffffffffe4)] [(5, 0x8000000080000000)] true,
     gives .rv64 0x844322f7 [(6, 0x837dff0580407f01)] [(5, 0x8000000080000000)] true,
     gives .rv64 0x567322f7 [(6, 0x1c0000000), (7, 0x2)] [(5, 0x480000000)] true,
     gives .rv64 0x667322f7 [(6, 0x1c0000000), (7, 0x2)] [(5, 0x480000000)] true] = true := by decide +kernel

/-- One vector for each instruction of 49_rv64_misc_mul.md, from its `Ex:` lines or 95_test_vectors.md section 2. -/
theorem test_vectors_Rv64MiscMul_a : allTrue
    [gives .rv64 0x907322f7 [(6, 0x7fffffff80000000), (7, 0x800000007fffffff)] [(5, 0x8000000080000000)] false,
     gives .rv64 0xa07322f7 [(6, 0x7fffffff80000000), (7, 0x800000007fffffff)] [(5, 0x7fffffff7fffffff)] false,
     gives .rv64 0x927322f7 [(6, 0x7fffffff80000000), (7, 0x800000007fffffff)] [(5, 0x7fffffff7fffffff)] false,
     gives .rv64 0xa27322f7 [(6, 0x7fffffff80000000), (7, 0x800000007fffffff)] [(5, 0x8000000080000000)] false,
     gives .rv64 0xad2302f7 [(6, 0x8000000080000001)] [(5, 0x7fffffff7fffffff)] true,
     gives .rv64 0xdc7312f7 [(6, 0x4000400080008000), (7, 0x2000200080008000)] [(5, 0x100000007fff)] true,
     gives .rv64 0xec7312f7 [(6, 0x4000400080008000), (7, 0x2000200080008000)] [(5, 0x100000007fff)] true,
     gives .rv64 0xfc7312f7 [(6, 0x4000400080008000), (7, 0x2000200080008000)] [(5, 0x100000007fff)] true,
     gives .rv64 0xda7312f7 [(6, 0x4000400080008000), (7, 0x2000200080008000)] [(5, 0x100000007fffffff)] true,
     gives .rv64 0xea7312f7 [(6, 0x4000400080008000), (7, 0x2000200080008000)] [(5, 0x100000007fffffff)] true,
     gives .rv64 0xfa7312f7 [(6, 0x4000400080008000), (7, 0x2000200080008000)] [(5, 0x100000007fffffff)] true,
     gives .rv64 0xd87312f7 [(5, 0x6480000000), (6, 0x4000400080008000), (7, 0x2000200080008000)] [(5, 0x10000064ffffffff)] true,
     gives .rv64 0xe87312f7 [(5, 0x7fffffff80000000), (6, 0x7fff7fff80007fff), (7, 0x7fff7fff7fff8000)] [(5, 0x7ffffffffffe0002)] true,
     gives .rv64 0xf87312f7 [(5, 0x6480000000), (6, 0x4000400080008000), (7, 0x2000200080008000)] [(5, 0x10000064ffffffff)] true,
     gives .rv64 0x187322f7 [(6, 0x800000007fffffff), (7, 0x7fffffff80000000)] [(5, 0x3fffffff00000001)] false,
     gives .rv64 0x287322f7 [(6, 0x7fffffff80000000), (7, 0xffffffff00000002)] [(5, 0xffffffff80000001)] false,
     gives .rv64 0x5a7322f7 [(5, 0x8000000000000000), (6, 0x7fffffff80000000), (7, 0xffffffff00000002)] [(5, 0x8000000000000000)] true,
     gives .rv64 0x6a7322f7 [(5, 0x7fffffffffffffff), (6, 0x8000000080000000), (7, 0x8000000080000000)] [(5, 0x7fffffffffffffff)] true,
     gives .rv64 0x7a7322f7 [(5, 0x8000000000000000), (6, 0x7fffffff80000000), (7, 0xffffffff00000002)] [(5, 0x8000000000000000)] true,
     gives .rv64 0x387322f7 [(6, 0x8000000080000000), (7, 0x8000000080000000)] [(5, 0x7fffffffffffffff)] true] = true := by decide +kernel

/-- One vector for each instruction of 49_rv64_misc_mul.md, from its `Ex:` lines or 95_test_vectors.md section 2. -/
theorem test_vectors_Rv64MiscMul_b : allTrue
    [gives .rv64 0x3a7322f7 [(6, 0x8000000080000000), (7, 0x8000000080000000)] [(5, 0x7fffffffffffffff)] true,
     gives .rv64 0x4a7322f7 [(5, 0x7fffffffffffffff), (6, 0x8000000080000000), (7, 0x8000000080000000)] [(5, 0x7fffffffffffffff)] true,
     gives .rv64 0x5c7322f7 [(5, 0x7fffffffffffffff), (6, 0x8000000000000000), (7, 0x8000000000000000)] [(5, 0x7fffffffffffffff)] true,
     gives .rv64 0x6c7322f7 [(5, 0x8000000000000000), (6, 0x7fffffff80000000), (7, 0xffffffff00000002)] [(5, 0x8000000000000000)] true,
     gives .rv64 0x7c7322f7 [(5, 0x7fffffffffffffff), (6, 0x8000000000000000), (7, 0x80000000)] [(5, 0x7fffffffffffffff)] true,
     gives .rv64 0x4c7322f7 [(5, 0x8000000000000000), (6, 0x8000000000000000), (7, 0x8000000000000000)] [(5, 0x8000000000000000)] true,
     gives .rv64 0x4e7322f7 [(5, 0x8000000000000000), (6, 0x7fffffff80000000), (7, 0xffffffff00000002)] [(5, 0x8000000000000000)] true,
     gives .rv64 0x587322f7 [(6, 0x7fffffff80000000), (7, 0xffffffff00000002)] [(5, 0x80000001)] false,
     gives .rv64 0x687322f7 [(6, 0x7fffffff80000000), (7, 0xffffffff00000002)] [(5, 0xffffffff7fffffff)] false,
     gives .rv64 0x787322f7 [(6, 0x7fffffff80000000), (7, 0xffffffff00000002)] [(5, 0x7ffffffe)] false,
     gives .rv64 0x341312f7 [(6, 0x123456780000000b)] [(5, 0x6)] false,
     gives .rv64 0x1e7322f7 [(6, 0x1111111122222222), (7, 0x3333333344444444)] [(5, 0x2222222233333333)] false,
     gives .rv64 0x3e7322f7 [(6, 0x1111111122222222), (7, 0x3333333344444444)] [(5, 0x1111111144444444)] false] = true := by decide +kernel

/-- R27, R28: RDOV reads `OV` and CLROV clears it. -/
theorem test_rdov_clrov :
    (match exec (.rdov 5#5) { State.reset with ov := true } with
      | .next t => t.x 5#5 == 1#64 && t.ov
      | _ => false) = true ∧
    (match exec .clrov { State.reset with ov := true } with
      | .next t => !t.ov
      | _ => false) = true := by decide +kernel

/-- R29: each CSR form on `vxsat`, from `OV` = 1 with source bit 0 = 1 or 0. -/
theorem test_csr :
    ([exec (.csrrw 5#5 0#5), exec (.csrrs 5#5 0#5), exec (.csrrc 5#5 6#5), exec (.csrrwi 5#5 2#5),
      exec (.csrrsi 5#5 1#5), exec (.csrrci 5#5 3#5)].map fun f =>
        match f { State.reset.setX 6#5 1#64 with ov := true } with
        | .next t => ((t.x 5#5).toNat, t.ov)
        | _ => (9, false)) =
      [(1, false), (1, true), (1, false), (1, false), (1, true), (1, false)] := by decide +kernel

/-- R81, R82: the `Ex:` lines of ADDI and LUI. -/
theorem test_addi_lui :
    gives .rv32 0xFFF28293 [(5, 5)] [(5, 4)] false = true ∧ gives .rv64 0xFFF28293 [(5, 0)] [(5, 0xFFFFFFFFFFFFFFFF)] false = true ∧
      gives .rv64 0x00001537 [] [(10, 0x1000)] false = true ∧
      gives .rv64 0x80000537 [] [(10, 0xFFFFFFFF80000000)] false = true := by decide +kernel

/-- R83: BNE x5, x0, -8 at an address A goes to A - 8, or to A + 4. -/
theorem test_bne :
    (match step { start .rv32 0 [(5, 1)] with pc := 0x80000100#64, mem := Memory.write [] 0x80000100 4 0xFE029CE3 } with
      | .next t => t.pcv == 0x800000F8#64
      | _ => false) = true ∧
    (match step { start .rv32 0 [] with pc := 0x80000100#64, mem := Memory.write [] 0x80000100 4 0xFE029CE3 } with
      | .next t => t.pcv == 0x80000104#64
      | _ => false) = true := by decide +kernel

/-- R41, R51 to R54: a stored word is little-endian and loads back sign-extended. -/
theorem test_store_load :
    (match exec (.sw 6#5 5#5 4#12) (start .rv64 0 [(5, 0x80000100), (6, 0x1122334489ABCDEF)]) with
      | .next t => (t.byte 0x80000104, t.byte 0x80000107, t.byte 0x80000108,
          match exec (.lw 7#5 5#5 4#12) t with
          | .next u => (u.x 7#5).toNat
          | _ => 0)
      | _ => (none, none, none, 0)) = (some 0xEF#8, some 0x89#8, none, 0xFFFFFFFF89ABCDEF) ∧
    (match exec (.sd 6#5 5#5 0xFF8#12) (start .rv64 0 [(5, 0x80000100), (6, 0x1122334489ABCDEF)]) with
      | .next t => (t.byte 0x800000F8, t.byte 0x800000FF,
          match exec (.ld 7#5 5#5 0xFF8#12) t with
          | .next u => (u.x 7#5).toNat
          | _ => 0)
      | _ => (none, none, 0)) = (some 0xEF#8, some 0x11#8, 0x1122334489ABCDEF) := by decide +kernel

/-- R112: REV on RV64 reverses 64 bits. R259: SWAP8 swaps the bytes of each halfword. -/
theorem test_rev_swap8 :
    gives .rv64 (encode (.revRv64 5#5 6#5)).toNat [(6, 1)] [(5, 0x8000000000000000)] false = true ∧
      gives .rv32 (encode (.swap8 5#5 6#5)).toNat [(6, 0x11223344)] [(5, 0x22114433)] false = true := by
  decide +kernel

/-- R114: the removed instructions are illegal. -/
theorem test_removed :
    [exec (.bpick 1#5 2#5 3#5 4#5) State.reset, exec (.maxw 1#5 2#5 3#5) State.reset, exec (.minw 1#5 2#5 3#5) State.reset] =
      List.replicate 3 (.fault (.illegalInstruction 0x80000000#64 0#32)) := rfl

/-- A word placed for the next step is the one it runs, at both widths (log entry 7). -/
theorem test_withFetchWord :
    ([(encode (.add16 5#5 6#5 7#5)).toNat, (encode (.add64 6#5 8#5 10#5)).toNat, (encode (.kadd32 5#5 6#5 7#5)).toNat,
      (encode (.pkbb16 5#5 6#5 7#5)).toNat].all fun w =>
        match step (State.reset.withFetchWord 32 w) with
        | .next t => t.pc == 0x80000004#64
        | _ => false) = true := by decide +kernel

/-! Witnesses: for each statement with hypotheses, states and operands that meet them. -/

/-- An answer that is a next state. -/
def isNext (r : Result) : Bool :=
  match r with
  | .next _ => true
  | _ => false

theorem exists_next {r : Result} (h : isNext r = true) : ∃ t, r = .next t := by
  cases r
  · exact ⟨_, rfl⟩
  · cases h
  · cases h

/-- RV64 after reset, with ADDI x1, x0, -1 at the pc. -/
def wide : State := start .rv64 0xFFF00093 []

/-- RV32 after reset, with the same word at the pc. -/
def narrow : State := start .rv32 0xFFF00093 []

/-- RV64 with `mstatus.VS`, Initial after reset. -/
def vector : State := { wide with cfg := { wide.cfg with hasVs := true } }

/-- `vector` with VS Off. -/
def vectorOff : State := { vector with vs := .off }

/-- `vector` with the hypervisor's field, V = 1 and `vsVS` Off. -/
def guestOff : State := { vector with cfg := { vector.cfg with hasH := true }, v := true, vsVs := .off }

theorem fetches_start (s : State) (w : Word) (h0 : s.ended = false) (h1 : s.pcv.toNat % 4 = 0)
    (h2 : s.cfg.memBase ≤ s.pcv.toNat ∧ s.pcv.toNat + 4 ≤ s.cfg.memBase + s.cfg.memSize)
    (b0 : s.byte s.pcv.toNat = some (w.extractLsb' 0 8)) (b1 : s.byte (s.pcv.toNat + 1) = some (w.extractLsb' 8 8))
    (b2 : s.byte (s.pcv.toNat + 2) = some (w.extractLsb' 16 8))
    (b3 : s.byte (s.pcv.toNat + 3) = some (w.extractLsb' 24 8)) : Fetches s w := by
  refine ⟨h0, ⟨h1, h2.1, h2.2⟩, fun k hk => ?_⟩
  match k, hk with
  | 0, _ => exact b0
  | 1, _ => exact b1
  | 2, _ => exact b2
  | 3, _ => exact b3

/-- The state `start` makes fetches its word. -/
theorem fetches_of (x : Xlen) (w : Word) (c : Config → Config)
    (h : (c { Config.default with xlen := x, keepReplaced := true }).memBase = 0x80000000 ∧
      (c { Config.default with xlen := x, keepReplaced := true }).memSize = 0x10000 ∧
      (c { Config.default with xlen := x, keepReplaced := true }).endPc = none) :
    Fetches { start x w.toNat [] with cfg := c (start x w.toNat []).cfg } w := by
  have hp : ∀ y : Xlen, wrapX y 0x80000000#64 = 0x80000000#64 := by intro y; cases y <;> rfl
  have e : ({ start x w.toNat [] with cfg := c (start x w.toNat []).cfg } : State).pcv.toNat = 0x80000000 := by
    show (wrapX _ 0x80000000#64).toNat = _
    rw [hp]; rfl
  have hb : ∀ k, k < 4 → ({ start x w.toNat [] with cfg := c (start x w.toNat []).cfg } : State).byte (0x80000000 + k) =
      some (w.extractLsb' (8 * k) 8) := by
    intro k hk
    show Memory.get (Memory.write [] 0x80000000 4 w.toNat) _ = _
    rw [get_write, if_pos (by omega)]
    congr 1
    apply BitVec.eq_of_toNat_eq
    simp [Nat.shiftRight_eq_div_pow, Nat.pow_mul]
  refine fetches_start _ w ?_ (by rw [e]) ?_ ?_ ?_ ?_ ?_
  · show ((c _).endPc == _) = false
    exact (congrArg (· == _) h.2.2).trans rfl
  · rw [e]
    show (c _).memBase ≤ _ ∧ _ ≤ (c _).memBase + (c _).memSize
    have h1 := h.1
    have h2 := h.2.1
    change (c (start x w.toNat []).cfg).memBase = _ at h1
    change (c (start x w.toNat []).cfg).memSize = _ at h2
    rw [h1, h2]
    decide
  · rw [e]; exact hb 0 (by decide)
  · rw [e]; exact hb 1 (by decide)
  · rw [e]; exact hb 2 (by decide)
  · rw [e]; exact hb 3 (by decide)

/-- `start` itself fetches its word. -/
theorem fetches_plain (x : Xlen) (w : Word) : Fetches (start x w.toNat []) w := fetches_of x w id ⟨rfl, rfl, rfl⟩

theorem witness_StepKeepsInvariant : (wide.Inv ∧ ∃ t, step wide = .next t) ∧ narrow.Inv ∧ ∃ t, step narrow = .next t :=
  ⟨⟨⟨by decide +kernel, by decide +kernel, by decide +kernel, by decide +kernel, by decide +kernel, by decide +kernel⟩,
      exists_next (by decide +kernel)⟩,
    ⟨by decide +kernel, by decide +kernel, by decide +kernel, by decide +kernel, by decide +kernel, by decide +kernel⟩,
    exists_next (by decide +kernel)⟩

/-- An instruction, and a word that is none. -/
theorem witness_StepRunsDecodedInstruction :
    (Fetches wide 0xFFF00093#32 ∧ decodeLegal wide.cfg 0xFFF00093#32 = some (.addi 1#5 0#5 0xFFF#12)) ∧
      Fetches (start .rv64 0 []) 0#32 ∧ decodeLegal (start .rv64 0 []).cfg 0#32 = none :=
  ⟨⟨fetches_plain .rv64 0xFFF00093#32, rfl⟩, fetches_plain .rv64 0#32, rfl⟩

theorem witness_DecodeOfEncodeIsTheInstruction :
    wellFormed .rv32 (.kadd64 30#5 0#5 2#5) = true ∧ wellFormed .rv64 (.bitreviRv64 31#5 0#5 63#6) = true ∧
      wellFormed .rv64 (.bne 0#5 31#5 0x1000#13) = true := ⟨rfl, rfl, rfl⟩

theorem witness_EncodeOfDecodeIsTheWord :
    decode .rv64 0xFFFFFFB7#32 = some (.lui 31#5 0xFFFFF#20) ∧ decode .rv32 0x00000013#32 = some (.addi 0#5 0#5 0#12) :=
  ⟨rfl, rfl⟩

/-- Each clause: rows absent and there; no row; Zpsfoperand absent, for a row of R4 and for WEXT; removed; replaced, on
each width; an odd rd, an odd rs1 and an odd rs2; and a legal word on RV64, with the odd pair ignored, with even pairs,
and replaced but kept. -/
theorem witness_IllegalWordsRaise :
    (Row.pktt32 ∈ absentRows .rv32 ∧ Row.smmulRv32 ∈ absentRows .rv64 ∧ Row.clz32 ∉ absentRows .rv32) ∧
      (Fetches (start .rv64 0 []) 0#32 ∧ decode .rv64 0#32 = none) ∧
      (Fetches { start .rv32 0xC0E61577 [] with cfg := { (start .rv32 0xC0E61577 []).cfg with zpsf := false } }
          0xC0E61577#32 ∧
        decode .rv32 0xC0E61577#32 = some (.add64 10#5 12#5 14#5) ∧ Row.add64 ∈ needZpsfoperandRows) ∧
      (Fetches { start .rv32 (encode (.wext 5#5 6#5 7#5)).toNat [] with
            cfg := { (start .rv32 (encode (.wext 5#5 6#5 7#5)).toNat []).cfg with zpsf := false } }
          (encode (.wext 5#5 6#5 7#5)) ∧
        decode .rv32 (encode (.wext 5#5 6#5 7#5)) = some (.wext 5#5 6#5 7#5) ∧ Row.wext ∈ needZpsfoperandRows) ∧
      (Fetches (start .rv64 0xF2730077 []) 0xF2730077#32 ∧
        decode .rv64 0xF2730077#32 = some (.maxw 0#5 6#5 7#5) ∧ Row.maxw ∈ removedRows) ∧
      (Fetches { start .rv32 (encode (.pkbb16 5#5 6#5 7#5)).toNat [] with
            cfg := { (start .rv32 (encode (.pkbb16 5#5 6#5 7#5)).toNat []).cfg with keepReplaced := false } }
          (encode (.pkbb16 5#5 6#5 7#5)) ∧
        decode .rv32 (encode (.pkbb16 5#5 6#5 7#5)) = some (.pkbb16 5#5 6#5 7#5) ∧
        Row.pkbb16 ∈ replacedRows .rv32 ∧ Row.pkbb16 ∉ replacedRows .rv64) ∧
      (Fetches { start .rv64 (encode (.wext 5#5 6#5 7#5)).toNat [] with
            cfg := { (start .rv64 (encode (.wext 5#5 6#5 7#5)).toNat []).cfg with keepReplaced := false } }
          (encode (.wext 5#5 6#5 7#5)) ∧
        decode .rv64 (encode (.wext 5#5 6#5 7#5)) = some (.wext 5#5 6#5 7#5) ∧ Row.wext ∈ replacedRows .rv64) ∧
      (Fetches (start .rv32 (encode (.add64 1#5 2#5 4#5)).toNat []) (encode (.add64 1#5 2#5 4#5)) ∧
        decode .rv32 (encode (.add64 1#5 2#5 4#5)) = some (.add64 1#5 2#5 4#5) ∧
        (start .rv32 (encode (.add64 1#5 2#5 4#5)).toNat []).cfg.oddPair = .illegal ∧
        OddPairField .add64 (encode (.add64 1#5 2#5 4#5))) ∧
      (OddPairField .wexti (encode (.wexti 5#5 31#5 7#5)) ∧ OddPairField .uksub64 (encode (.uksub64 0#5 0#5 31#5))) ∧
      (Fetches wide 0xFFF00093#32 ∧ Row.addi ∉ needZpsfoperandRows ∧ Row.addi ∉ removedRows ∧
        Row.addi ∉ replacedRows .rv64 ∧ wide.cfg.xlen = .rv64) ∧
      (Fetches { start .rv32 (encode (.add64 1#5 2#5 4#5)).toNat [] with
            cfg := { (start .rv32 (encode (.add64 1#5 2#5 4#5)).toNat []).cfg with oddPair := .ignoreBit0 } }
          (encode (.add64 1#5 2#5 4#5)) ∧ Row.add64 ∉ removedRows ∧ Row.add64 ∉ replacedRows .rv32) ∧
      (Fetches (start .rv32 0xC0E61577 []) 0xC0E61577#32 ∧ (start .rv32 0xC0E61577 []).cfg.zpsf = true ∧
        ¬OddPairField .add64 0xC0E61577#32) ∧
      Fetches (start .rv32 (encode (.pkbb16 5#5 6#5 7#5)).toNat []) (encode (.pkbb16 5#5 6#5 7#5)) ∧
        (start .rv32 (encode (.pkbb16 5#5 6#5 7#5)).toNat []).cfg.keepReplaced = true :=
  ⟨⟨by decide, by decide, by decide⟩, ⟨fetches_plain .rv64 0#32, rfl⟩,
    ⟨fetches_of .rv32 0xC0E61577#32 (fun c => { c with zpsf := false }) ⟨rfl, rfl, rfl⟩, rfl, by decide⟩,
    ⟨fetches_of .rv32 (encode (.wext 5#5 6#5 7#5)) (fun c => { c with zpsf := false }) ⟨rfl, rfl, rfl⟩, rfl, by decide⟩,
    ⟨fetches_plain .rv64 0xF2730077#32, rfl, by decide⟩,
    ⟨fetches_of .rv32 (encode (.pkbb16 5#5 6#5 7#5)) (fun c => { c with keepReplaced := false }) ⟨rfl, rfl, rfl⟩, rfl,
      by decide, by decide⟩,
    ⟨fetches_of .rv64 (encode (.wext 5#5 6#5 7#5)) (fun c => { c with keepReplaced := false }) ⟨rfl, rfl, rfl⟩, rfl,
      by decide⟩,
    ⟨fetches_plain .rv32 (encode (.add64 1#5 2#5 4#5)), rfl, rfl, .inl (by decide)⟩,
    ⟨.inr (.inl (by decide)), .inr (.inr (by decide))⟩,
    ⟨fetches_plain .rv64 0xFFF00093#32, by decide, by decide, by decide, rfl⟩,
    ⟨fetches_of .rv32 (encode (.add64 1#5 2#5 4#5)) (fun c => { c with oddPair := .ignoreBit0 }) ⟨rfl, rfl, rfl⟩,
      by decide, by decide⟩,
    ⟨fetches_plain .rv32 0xC0E61577#32, rfl, by unfold OddPairField; decide⟩,
    fetches_plain .rv32 (encode (.pkbb16 5#5 6#5 7#5)), rfl⟩

/-- A pc of 4k + 1; the word right below the region and the one right above; a word in the region with its last byte
missing. -/
theorem witness_FetchFaultsInOrder :
    ({ wide with pc := 0x80000001#64 } : State).ended = false ∧
      ({ wide with pc := 0x80000001#64 } : State).pcv.toNat % 4 ≠ 0 ∧
      ¬(wide.cfg.memBase ≤ ({ wide with pc := 0x7FFFFFFC#64 } : State).pcv.toNat) ∧
      ¬(({ wide with pc := 0x80010000#64 } : State).pcv.toNat + 4 ≤ wide.cfg.memBase + wide.cfg.memSize) ∧
      (0x8000FFFC % 4 = 0 ∧ wide.cfg.memBase ≤ 0x8000FFFC ∧ 0x8000FFFC + 4 ≤ wide.cfg.memBase + wide.cfg.memSize ∧
        ({ wide with pc := 0x8000FFFC#64 } : State).pcv.toNat = 0x8000FFFC ∧ wide.byte (0x8000FFFC + 3) = none) := by
  decide +kernel

theorem witness_RunEndsAtEndPc :
    ({ wide with cfg := { wide.cfg with endPc := some 0x80000000#64 } } : State).cfg.endPc =
      some ({ wide with cfg := { wide.cfg with endPc := some 0x80000000#64 } } : State).pcv := by decide +kernel

theorem witness_OnlyVxsatWritesClearOv :
    ∃ t, exec .clrov { wide with ov := true } = .next t ∧ ({ wide with ov := true } : State).ov = true ∧ t.ov = false :=
  ⟨_, rfl, rfl, rfl⟩

theorem witness_OnlyVxsatClassTouchesFlags :
    accessesVxsat .add16 = false ∧ ∃ t, exec (.add16 1#5 2#5 3#5) vectorOff = .next t := ⟨rfl, _, rfl⟩

theorem witness_VsOffMakesVxsatAccessIllegal :
    (accessesVxsat .kadd16 = true ∧ vectorOff.cfg.hasVs = true ∧ vectorOff.vs = .off) ∧
      (accessesVxsat .rdov = true ∧ guestOff.cfg.hasVs = true ∧ guestOff.cfg.hasH = true ∧ guestOff.v = true ∧
        guestOff.vsVs = .off) ∧
      accessesVxsat .add16 = false ∧ ∃ t, exec (.add16 1#5 2#5 3#5) vector = .next t :=
  ⟨⟨rfl, rfl, rfl⟩, ⟨rfl, rfl, rfl, rfl, rfl⟩, rfl, _, rfl⟩

theorem witness_WritingVxsatMakesVsDirty :
    ((rowInfo .kadd16).vxsat = .mayClip ∧ vector.cfg.vsDirty = .static ∧
        (∃ t, exec (.kadd16 1#5 2#5 3#5) vector = .next t) ∧ ∃ t, exec .clrov vector = .next t) ∧
      ∃ t, exec (.kadd16 1#5 2#5 3#5) { vector with cfg := { vector.cfg with vsDirty := .dynamic } } = .next t ∧
        t.ov = false :=
  ⟨⟨rfl, rfl, exists_next (by decide +kernel), exists_next (by decide +kernel)⟩, _, rfl, by decide +kernel⟩

theorem witness_VsOnlyBecomesDirty : ∃ t, step vectorOff = .next t := exists_next (by decide +kernel)

theorem witness_NoDataDependentException :
    (presence .rv32 .add16 ≠ .removed ∧ Row.add16 ∉ [Row.lw, .sw, .ld, .sd, .bne] ∧ accessesVxsat .add16 = false) ∧
      presence .rv32 .kadd16 ≠ .removed ∧ Row.kadd16 ∉ [Row.lw, .sw, .ld, .sd, .bne] ∧ vector.vxsatOff = false ∧
      vectorOff.vxsatOff = true := by decide

theorem witness_OnlyStoresTouchMemory :
    Row.kadd16 ∉ [Row.lw, .sw, .ld, .sd] ∧ ∃ t, exec (.kadd16 1#5 2#5 3#5) wide = .next t :=
  ⟨by decide, exists_next (by decide +kernel)⟩

theorem witness_PairOfZeroRegister : narrow.cfg.xlen = .rv32 := rfl

/-- The first and the last pair. -/
theorem witness_RegisterPairLayout :
    narrow.cfg.xlen = .rv32 ∧ (2#5).getLsbD 0 = false ∧ 2#5 ≠ 0#5 ∧ (30#5).getLsbD 0 = false ∧ 30#5 ≠ 0#5 := by decide

theorem witness_SharedWordsAgree : wide.cfg.xlen = .rv64 ∧ narrow.cfg.xlen = .rv32 := ⟨rfl, rfl⟩

theorem witness_RemovedInstructionsAreIllegal :
    Fetches (start .rv64 (encode (.bpick 31#5 0#5 1#5 2#5)).toNat []) (encode (.bpick 31#5 0#5 1#5 2#5)) ∧
      Fetches (start .rv32 (encode (.maxw 31#5 0#5 1#5)).toNat []) (encode (.maxw 31#5 0#5 1#5)) ∧
      Fetches (start .rv64 (encode (.minw 31#5 0#5 1#5)).toNat []) (encode (.minw 31#5 0#5 1#5)) :=
  ⟨fetches_plain _ _, fetches_plain _ _, fetches_plain _ _⟩

theorem witness_RdovAndClrov : vector.vxsatOff = false ∧ vectorOff.vxsatOff = true ∧ guestOff.vxsatOff = true := by
  decide

theorem witness_CsrAccessToVxsat : vector.vxsatOff = false ∧ 31#5 ≠ 0#5 ∧ 1#5 ≠ 0#5 := by decide

/-- The lowest and the highest word, the highest doubleword, misaligned addresses, and the first address outside. -/
theorem witness_LoadsReadMemory :
    let low := start .rv64 0x00000013 [(5, 0x80000000)]
    let high := start .rv64 0x00000013 [(5, 0x8000FFFC)]
    let top := { start .rv64 0 [(5, 0x8000FFF8)] with mem := Memory.write [] 0x8000FFF8 8 0xFF }
    let odd := start .rv64 0 [(5, 0x80000001)]
    let out := start .rv64 0 [(5, 0x80010000)]
    (Accessible low (low.effAddr 5#5 0#12).toNat 4 ∧ BytesAt low (low.effAddr 5#5 0#12).toNat [0x13#8, 0#8, 0#8, 0#8]) ∧
      Accessible high (high.effAddr 5#5 0#12).toNat 4 ∧
      (top.cfg.xlen = .rv64 ∧ Accessible top (top.effAddr 5#5 0#12).toNat 8 ∧
        BytesAt top (top.effAddr 5#5 0#12).toNat [0xFF#8, 0#8, 0#8, 0#8, 0#8, 0#8, 0#8, 0#8]) ∧
      (odd.effAddr 5#5 0#12).toNat % 4 ≠ 0 ∧ (odd.effAddr 5#5 3#12).toNat % 8 ≠ 0 ∧
      ((out.effAddr 5#5 0#12).toNat % 4 = 0 ∧ ¬Accessible out (out.effAddr 5#5 0#12).toNat 4) ∧
      (out.effAddr 5#5 0#12).toNat % 8 = 0 ∧ ¬Accessible out (out.effAddr 5#5 0#12).toNat 8 := by
  unfold Accessible BytesAt
  decide +kernel

/-- The lowest and the highest word and doubleword, misaligned addresses, and the addresses right outside. -/
theorem witness_StoresWriteMemory :
    let low := start .rv64 0 [(5, 0x80000000)]
    let high := start .rv64 0 [(5, 0x8000FFFC)]
    let odd := start .rv64 0 [(5, 0x80000002)]
    let out := start .rv64 0 [(5, 0x80010000)]
    Accessible low (low.effAddr 5#5 0#12).toNat 4 ∧ Accessible high (high.effAddr 5#5 0#12).toNat 4 ∧
      Accessible low (low.effAddr 5#5 0#12).toNat 8 ∧ Accessible high (high.effAddr 5#5 0xFFC#12).toNat 8 ∧
      (odd.effAddr 5#5 0#12).toNat % 4 ≠ 0 ∧ (odd.effAddr 5#5 2#12).toNat % 8 ≠ 0 ∧
      ((out.effAddr 5#5 0#12).toNat % 4 = 0 ∧ ¬Accessible out (out.effAddr 5#5 0#12).toNat 4) ∧
      ((low.effAddr 5#5 0xFF8#12).toNat % 8 = 0 ∧ ¬Accessible low (low.effAddr 5#5 0xFF8#12).toNat 8) := by
  unfold Accessible
  decide +kernel

theorem witness_StoredWordLoadsBack :
    let s := start .rv64 0 [(5, 0x8000FFF8), (6, 0xFEDCBA9876543210)]
    s.cfg.xlen = .rv64 ∧ (∃ t, exec (.sw 6#5 5#5 4#12) s = .next t) ∧ ∃ t, exec (.sd 6#5 5#5 0#12) s = .next t :=
  ⟨rfl, exists_next (by decide +kernel), exists_next (by decide +kernel)⟩

theorem witness_AddiAndLui : 1#5 ≠ 0#5 ∧ 31#5 ≠ 0#5 := by decide

/-- A taken branch backwards and one to a target that is not a multiple of 4, and one that is not taken. -/
theorem witness_BneBranches :
    let s := start .rv32 0 [(5, 1)]
    ((0x7FFFF000#64).toNat < 2 ^ s.xlen ∧ (((0x7FFFF000#64).toNat : Int) = ((s.pcv.toNat : Int) + (0x1000#13).toInt) % 2 ^ s.xlen) ∧
        s.x 5#5 ≠ s.x 0#5 ∧ (0x7FFFF000#64).toNat % 4 = 0) ∧
      ((0x80000FFE#64).toNat < 2 ^ s.xlen ∧ (((0x80000FFE#64).toNat : Int) = ((s.pcv.toNat : Int) + (0xFFE#13).toInt) % 2 ^ s.xlen) ∧
        (0x80000FFE#64).toNat % 4 ≠ 0) ∧
      s.x 6#5 = s.x 0#5 := by decide +kernel

/-! The statements about results: a destination other than `x0`, the last lane, a 64-bit destination, and VS not Off,
at each width they speak of. -/

theorem witness_ZbpboBitSelection :
    31#5 ≠ 0#5 ∧ 7 < wide.lanes 8 ∧ 3 < narrow.lanes 8 ∧ wide.cfg.xlen = .rv64 ∧ narrow.cfg.xlen = .rv32 ∧
    63 < wide.xlen ∧ 31 < narrow.xlen := by decide

theorem witness_ClzMaxMin :
    31#5 ≠ 0#5 := by decide

theorem witness_WrappingLaneArithmetic :
    31#5 ≠ 0#5 ∧ 7 < wide.lanes 8 ∧ 3 < narrow.lanes 8 ∧ 3 < wide.lanes 16 ∧ 1 < narrow.lanes 16 ∧ 1 < wide.lanes 32 ∧
    0 < narrow.lanes 32 := by decide

theorem witness_SignedHalvingLaneArithmetic :
    31#5 ≠ 0#5 ∧ 7 < wide.lanes 8 ∧ 3 < narrow.lanes 8 ∧ 3 < wide.lanes 16 ∧ 1 < narrow.lanes 16 ∧ 1 < wide.lanes 32 ∧
    0 < narrow.lanes 32 := by decide

theorem witness_UnsignedHalvingLaneArithmetic :
    31#5 ≠ 0#5 ∧ 7 < wide.lanes 8 ∧ 3 < narrow.lanes 8 ∧ 3 < wide.lanes 16 ∧ 1 < narrow.lanes 16 ∧ 1 < wide.lanes 32 ∧
    0 < narrow.lanes 32 := by decide

theorem witness_SignedSaturatingLaneArithmetic :
    31#5 ≠ 0#5 ∧ wide.vxsatOff = false ∧ narrow.vxsatOff = false ∧ vector.vxsatOff = false ∧ 7 < wide.lanes 8 ∧
    3 < narrow.lanes 8 ∧ 3 < wide.lanes 16 ∧ 1 < narrow.lanes 16 ∧ 1 < wide.lanes 32 ∧
    0 < narrow.lanes 32 := by decide

theorem witness_UnsignedSaturatingLaneArithmetic :
    31#5 ≠ 0#5 ∧ wide.vxsatOff = false ∧ narrow.vxsatOff = false ∧ vector.vxsatOff = false ∧ 7 < wide.lanes 8 ∧
    3 < narrow.lanes 8 ∧ 3 < wide.lanes 16 ∧ 1 < narrow.lanes 16 ∧ 1 < wide.lanes 32 ∧
    0 < narrow.lanes 32 := by decide

theorem witness_LaneShifts :
    31#5 ≠ 0#5 ∧ 7 < wide.lanes 8 ∧ 3 < narrow.lanes 8 ∧ 3 < wide.lanes 16 ∧ 1 < narrow.lanes 16 ∧ 1 < wide.lanes 32 ∧
    0 < narrow.lanes 32 := by decide

theorem witness_RoundingLaneShifts :
    31#5 ≠ 0#5 ∧ 7 < wide.lanes 8 ∧ 3 < narrow.lanes 8 ∧ 3 < wide.lanes 16 ∧ 1 < narrow.lanes 16 ∧ 1 < wide.lanes 32 ∧
    0 < narrow.lanes 32 := by decide

theorem witness_SaturatingLaneShifts :
    31#5 ≠ 0#5 ∧ wide.vxsatOff = false ∧ narrow.vxsatOff = false ∧ vector.vxsatOff = false ∧ 7 < wide.lanes 8 ∧
    3 < narrow.lanes 8 ∧ 3 < wide.lanes 16 ∧ 1 < narrow.lanes 16 ∧ 1 < wide.lanes 32 ∧
    0 < narrow.lanes 32 := by decide

theorem witness_LaneCompares :
    31#5 ≠ 0#5 ∧ 7 < wide.lanes 8 ∧ 3 < narrow.lanes 8 ∧ 3 < wide.lanes 16 ∧ 1 < narrow.lanes 16 := by decide

theorem witness_LaneMinimumMaximum :
    31#5 ≠ 0#5 ∧ 7 < wide.lanes 8 ∧ 3 < narrow.lanes 8 ∧ 3 < wide.lanes 16 ∧ 1 < narrow.lanes 16 ∧ 1 < wide.lanes 32 ∧
    0 < narrow.lanes 32 := by decide

theorem witness_LaneClipsAndAbsolute :
    31#5 ≠ 0#5 ∧ wide.vxsatOff = false ∧ narrow.vxsatOff = false ∧ vector.vxsatOff = false ∧ 7 < wide.lanes 8 ∧
    3 < narrow.lanes 8 ∧ 3 < wide.lanes 16 ∧ 1 < narrow.lanes 16 ∧ 1 < wide.lanes 32 ∧
    0 < narrow.lanes 32 := by decide

theorem witness_LaneBitCounts :
    31#5 ≠ 0#5 ∧ 7 < wide.lanes 8 ∧ 3 < narrow.lanes 8 ∧ 3 < wide.lanes 16 ∧ 1 < narrow.lanes 16 ∧ 1 < wide.lanes 32 ∧
    0 < narrow.lanes 32 := by decide

theorem witness_SwapsAndUnpacks :
    31#5 ≠ 0#5 ∧ 7 < wide.lanes 8 ∧ 3 < narrow.lanes 8 ∧ 3 < wide.lanes 16 ∧ 1 < narrow.lanes 16 := by decide

theorem witness_LaneProducts64 :
    31#5 ≠ 0#5 ∧ 3 < wide.lanes 16 ∧ 1 < narrow.lanes 16 ∧ 1 < wide.lanes 32 ∧ 0 < narrow.lanes 32 ∧
    dest64 wide 31#5 ≠ [] ∧ dest64 narrow 2#5 ≠ [] := by decide

theorem witness_SaturatingLaneProducts :
    31#5 ≠ 0#5 ∧ wide.vxsatOff = false ∧ narrow.vxsatOff = false ∧ vector.vxsatOff = false ∧ 7 < wide.lanes 8 ∧
    3 < narrow.lanes 8 ∧ 3 < wide.lanes 16 ∧ 1 < narrow.lanes 16 ∧ 1 < wide.lanes 32 ∧
    0 < narrow.lanes 32 := by decide

theorem witness_LanePacks :
    31#5 ≠ 0#5 ∧ 3 < wide.lanes 16 ∧ 1 < narrow.lanes 16 ∧ 1 < wide.lanes 32 ∧ 0 < narrow.lanes 32 ∧
    wide.cfg.xlen = .rv64 := by decide

theorem witness_MostSignificantWordProducts :
    31#5 ≠ 0#5 ∧ 1 < wide.lanes 32 ∧ 0 < narrow.lanes 32 := by decide

theorem witness_SaturatingMostSignificantWord :
    31#5 ≠ 0#5 ∧ wide.vxsatOff = false ∧ narrow.vxsatOff = false ∧ vector.vxsatOff = false ∧ 1 < wide.lanes 32 ∧
    0 < narrow.lanes 32 := by decide

theorem witness_TwiceSaturatingAccumulates :
    31#5 ≠ 0#5 ∧ wide.vxsatOff = false ∧ narrow.vxsatOff = false ∧ vector.vxsatOff = false ∧ 1 < wide.lanes 32 ∧
    0 < narrow.lanes 32 := by decide

theorem witness_HalfwordProducts :
    31#5 ≠ 0#5 ∧ wide.vxsatOff = false ∧ narrow.vxsatOff = false ∧ vector.vxsatOff = false ∧ 1 < wide.lanes 32 ∧
    0 < narrow.lanes 32 := by decide

theorem witness_ByteSums :
    31#5 ≠ 0#5 ∧ 1 < wide.lanes 32 ∧ 0 < narrow.lanes 32 := by decide

theorem witness_SixtyFourBitSums :
    31#5 ≠ 0#5 ∧ wide.vxsatOff = false ∧ narrow.vxsatOff = false ∧ vector.vxsatOff = false ∧ dest64 wide 31#5 ≠ [] ∧
    dest64 narrow 2#5 ≠ [] := by decide

theorem witness_WordMultipliesTo64 :
    31#5 ≠ 0#5 ∧ wide.vxsatOff = false ∧ narrow.vxsatOff = false ∧ vector.vxsatOff = false ∧ dest64 wide 31#5 ≠ [] ∧
    dest64 narrow 2#5 ≠ [] := by decide

theorem witness_HalfwordMultipliesTo64 :
    31#5 ≠ 0#5 ∧ dest64 wide 31#5 ≠ [] ∧ dest64 narrow 2#5 ≠ [] := by decide

theorem witness_ScalarHalfwordSaturation :
    31#5 ≠ 0#5 ∧ wide.vxsatOff = false ∧ narrow.vxsatOff = false ∧ vector.vxsatOff = false := by decide

theorem witness_ScalarWordSaturation :
    31#5 ≠ 0#5 ∧ wide.vxsatOff = false ∧ narrow.vxsatOff = false ∧ vector.vxsatOff = false := by decide

theorem witness_ScalarArithmetic :
    31#5 ≠ 0#5 := by decide

theorem witness_ScalarBitManipulation :
    31#5 ≠ 0#5 ∧ 7 < wide.lanes 8 ∧ 3 < narrow.lanes 8 := by decide

theorem witness_WordProducts64 :
    31#5 ≠ 0#5 ∧ wide.vxsatOff = false ∧ narrow.vxsatOff = false ∧ vector.vxsatOff = false ∧
    wide.cfg.xlen = .rv64 := by decide

end Sys2Proof.Tests
end

section
/-!
What an instruction can answer, said once for every row: `exec` answers through one of the shared operations of
Machine/Ops.lean, and the marks of the row (rule R555) say which of them it can be.
-/

namespace Sys2Proof.Machine

open Sys2Proof

/-- The operations a row's meaning can be, with the operands left open: each constructor is one shared operation, and
its first argument says which rows use it. -/
inductive ExecShape (s : State) (row : Row) : Result → Prop where
  /-- Writes `x[rd]`. -/
  | writesX (h : (rowInfo row).vxsat = .none) (rd : Reg) (v : XWord) : ExecShape s row (s.writeBits rd v)
  /-- Writes `op64(rd)` (rules R22, R360). -/
  | writes64 (h : (rowInfo row).vxsat = .none) (rd : Reg) (v : XWord) :
      ExecShape s row (.next (s.setX64 rd v).advance)
  /-- Writes `x[rd]` and notes whether something clipped (rule R15). -/
  | clipsX (h : (rowInfo row).vxsat = .mayClip) (rd : Reg) (v : XWord) (clip : Bool) :
      ExecShape s row (s.clipped (s.setX rd v) clip)
  /-- Writes `op64(rd)` and notes whether something clipped. -/
  | clips64 (h : (rowInfo row).vxsat = .mayClip) (rd : Reg) (v : XWord) (clip : Bool) :
      ExecShape s row (s.clipped (s.setX64 rd v) clip)
  /-- Loads into `x[rd]` (rules R51, R53). -/
  | loads (h : row ∈ [Row.lw, .ld]) (rd : Reg) (addr : XWord) (n : Nat) (ext : Nat → XWord) :
      ExecShape s row (s.load addr n fun v => s.writeBits rd (ext v))
  /-- Stores (rules R52, R54). -/
  | stores (h : row ∈ [Row.sw, .sd]) (addr : XWord) (n v : Nat) : ExecShape s row (s.store addr n v)
  /-- Goes on with the next instruction: a BNE that is not taken (rule R83). -/
  | advances (h : row = .bne) : ExecShape s row (.next s.advance)
  /-- Jumps: a BNE that is taken (rule R83). -/
  | jumps (h : row = .bne) (target : XWord) : ExecShape s row (s.jump target)
  /-- Is no instruction (rule R114). -/
  | stops (h : row ∈ [Row.bpick, .maxw, .minw]) : ExecShape s row s.illegal
  /-- Reads `vxsat` and leaves it (rules R27, R29). -/
  | readsOv (h : (rowInfo row).vxsat = .csr) (rd : Reg) : ExecShape s row (s.vxsatAccess (s.writeBits rd s.vxsat))
  /-- Reads `vxsat` into `x[rd]` and writes `OV` (rules R28, R29); CLROV is the write of 0 with `x0` as `rd`. -/
  | writesOv (h : (rowInfo row).vxsat = .csr) (rd : Reg) (ov : Bool) :
      ExecShape s row (s.vxsatAccess (.next ((s.setX rd s.vxsat).setOv ov).advance))

/-- A CSR instruction that writes `vxsat` only when its source field is not 0 (rule R29). -/
theorem execShape_csr_ite {s : State} {row : Row} (h : (rowInfo row).vxsat = .csr) (rd : Reg) (ov : Bool)
    (p : Prop) [Decidable p] :
    ExecShape s row (s.vxsatAccess
      (if p then s.writeBits rd s.vxsat else .next ((s.setX rd s.vxsat).setOv ov).advance)) := by
  split
  · exact .readsOv h rd
  · exact .writesOv h rd ov

theorem execShape_bne (s : State) (rs1 rs2 : Reg) (offset : BitVec 13) :
    ExecShape s .bne (execBne rs1 rs2 offset s) := by
  unfold execBne
  split
  · exact .advances rfl
  · exact .jumps rfl _

/-- Every instruction answers through the operation its row's marks allow: the rows, sorted by operation. -/
theorem exec_shape (i : Instr) (s : State) : ExecShape s i.row (exec i s) := by
  cases i with
  | rdov => exact .readsOv rfl _
  | clrov => exact .writesOv rfl 0#5 false
  | csrrw | csrrwi => exact .writesOv rfl _ _
  | csrrs | csrrc | csrrsi | csrrci => exact execShape_csr_ite rfl _ _ _
  | lw | ld => exact .loads (of_decide_eq_true rfl) _ _ _ _
  | sw | sd => exact .stores (of_decide_eq_true rfl) _ _ _
  | bne => exact execShape_bne s _ _ _
  | bpick | maxw | minw => exact .stops (of_decide_eq_true rfl)
  | addi | clz | max | min | pbsad | pbsada | ave | sraU | sraiURv32 | sraiURv64 | smbb32 | smbt32 | smtt32
  | smds32 | smdrs32 | smxds32 | pkbb32 | pkbt32 | pktb32 | pktt32 | lui | cmix | fsr | fsri | fsrw | revRv32
  | revRv64 | bitrev | bitreviRv32 | bitreviRv64 | insbRv32 | insbRv64 | wext | wexti | pack | packu | rev8H
  | add16 | radd16 | uradd16 | sub16 | rsub16 | ursub16 | cras16 | rcras16 | urcras16 | crsa16 | rcrsa16
  | urcrsa16 | stas16 | rstas16 | urstas16 | stsa16 | rstsa16 | urstsa16 | add8 | radd8 | uradd8 | sub8 | rsub8
  | ursub8 | sra16 | srai16 | sra16U | srai16U | srl16 | srli16 | srl16U | srli16U | sll16 | slli16 | sra8 | srai8
  | sra8U | srai8U | srl8 | srli8 | srl8U | srli8U | sll8 | slli8 | cmpeq16 | scmplt16 | scmple16 | ucmplt16
  | ucmple16 | cmpeq8 | scmplt8 | scmple8 | ucmplt8 | ucmple8 | smin16 | umin16 | smax16 | umax16 | clrs16 | clz16
  | swap16 | smin8 | umin8 | smax8 | umax8 | clrs8 | clz8 | swap8 | sunpkd810 | sunpkd820 | sunpkd830 | sunpkd831
  | sunpkd832 | zunpkd810 | zunpkd820 | zunpkd830 | zunpkd831 | zunpkd832 | pkbb16 | pkbt16 | pktt16 | pktb16
  | smmul | smmulRv32 | smmulU | smmwb | smmwbU | smmwt | smmwtU | smbb16 | smbt16 | smtt16 | smds | smdrs | smxds
  | clrs32 | clz32 | smaqa | umaqa | smaqaSu | add32 | radd32 | uradd32 | sub32 | rsub32 | ursub32 | cras32
  | rcras32 | urcras32 | crsa32 | rcrsa32 | urcrsa32 | stas32 | rstas32 | urstas32 | stsa32 | rstsa32 | urstsa32
  | sra32 | srai32 | sra32U | srai32U | srl32 | srli32 | srl32U | srli32U | sll32 | slli32 | smin32 | umin32
  | smax32 | umax32 | raddw | uraddw | rsubw | ursubw | msubr32 | maddr32 | sraiwU => exact .writesX rfl _ _
  | smal | add64 | radd64 | uradd64 | sub64 | rsub64 | ursub64 | smar64 | smsr64 | umar64 | umsr64 | smalbb
  | smalbt | smaltt | smalda | smalxda | smalds | smaldrs | smalxds | smslda | smslxda | mulr64 | mulsr64 | smul16
  | smulx16 | umul16 | umulx16 | smul8 | smulx8 | umul8 | umulx8 => exact .writes64 rfl _ _
  | kadd16 | ukadd16 | ksub16 | uksub16 | kcras16 | ukcras16 | kcrsa16 | ukcrsa16 | kstas16 | ukstas16 | kstsa16
  | ukstsa16 | kadd8 | ukadd8 | ksub8 | uksub8 | ksll16 | kslli16 | kslra16 | kslra16U | ksll8 | kslli8 | kslra8
  | kslra8U | sclip16 | uclip16 | kabs16 | kabs8 | sclip8 | uclip8 | khm16 | khmx16 | khm8 | khmx8 | kmmac
  | kmmacU | kmmsb | kmmsbU | kwmmul | kwmmulU | kmmawb | kmmawbU | kmmawt | kmmawtU | kmmwb2 | kmmwb2U | kmmwt2
  | kmmwt2U | kmmawb2 | kmmawb2U | kmmawt2 | kmmawt2U | kmda | kmxda | kmabb | kmabt | kmatt | kmada | kmaxda
  | kmads | kmadrs | kmaxds | kmsda | kmsxda | sclip32 | uclip32 | kadd32 | ukadd32 | ksub32 | uksub32 | kcras32
  | ukcras32 | kcrsa32 | ukcrsa32 | kstas32 | ukstas32 | kstsa32 | ukstsa32 | ksll32 | kslli32 | kslra32
  | kslra32U | kabs32 | khmbb16 | khmbt16 | khmtt16 | kdmbb16 | kdmbt16 | kdmtt16 | kdmabb16 | kdmabt16 | kdmatt16
  | kaddw | ukaddw | ksubw | uksubw | kdmbb | kdmbt | kdmtt | kslraw | kslrawU | ksllw | kslliw | kdmabb | kdmabt
  | kdmatt | kabsw | kaddh | ksubh | ukaddh | uksubh | khmbb | khmbt | khmtt | kmabb32 | kmabt32 | kmatt32
  | kmda32 | kmxda32 | kmada32 | kmaxda32 | kmads32 | kmadrs32 | kmaxds32 | kmsda32 | kmsxda32 =>
    exact .clipsX rfl _ _ _
  | kadd64 | ukadd64 | ksub64 | uksub64 | kmar64 | kmsr64 | ukmar64 | ukmsr64 => exact .clips64 rfl _ _ _

/-! What the operations leave of `OV`. -/

/-- An access to `vxsat` that completes was not forbidden, and its result is the answer (rules R552, R554). -/
theorem vxsatAccess_next {s t : State} {r : Result} (h : s.vxsatAccess r = .next t) :
    s.vxsatOff = false ∧ r = .next t := by
  cases hoff : s.vxsatOff with
  | false => exact ⟨rfl, vxsatAccess_on s r hoff ▸ h⟩
  | true => rw [vxsatAccess_off s r hoff] at h; cases h

/-- An instruction that can clip keeps an `OV` of 1 (rule R15). -/
theorem clipped_ov {s t u : State} {clip : Bool} (h : s.clipped u clip = .next t) : t.ov = (u.ov || clip) := by
  obtain ⟨-, hnext⟩ := vxsatAccess_next h
  injection hnext with ht
  rw [← ht, advance_ov, noteClip_ov]

theorem writeBits_ov {s t : State} {rd : Reg} {v : XWord} (h : s.writeBits rd v = .next t) : t.ov = s.ov := by
  injection h with ht
  rw [← ht, advance_ov, setX_ov]

/-- Outside the CSR rows a completed instruction can only raise `OV` (rules R15, R26). -/
theorem ExecShape.ov_sticky {s t : State} {row : Row} {r : Result} (hshape : ExecShape s row r)
    (hrow : (rowInfo row).vxsat ≠ .csr) (hr : r = .next t) (hov : s.ov = true) : t.ov = true := by
  cases hshape with
  | writesX _ rd v => rw [writeBits_ov hr, hov]
  | writes64 _ rd v =>
    injection hr with ht
    rw [← ht, advance_ov, setX64_ov, hov]
  | clipsX _ rd v clip => rw [clipped_ov hr, setX_ov, hov, Bool.true_or]
  | clips64 _ rd v clip => rw [clipped_ov hr, setX64_ov, hov, Bool.true_or]
  | loads _ rd addr n ext =>
    obtain ⟨-, -, v, -, hv⟩ := load_next hr
    rw [writeBits_ov hv, hov]
  | stores _ addr n v =>
    obtain ⟨-, -, rfl⟩ := store_next hr
    exact hov
  | advances =>
    injection hr with ht
    rw [← ht, advance_ov, hov]
  | jumps _ target =>
    obtain ⟨-, rfl⟩ := jump_next hr
    exact hov
  | stops => cases hr
  | readsOv h => exact absurd h hrow
  | writesOv h => exact absurd h hrow

/-- Settles O12: outside the CSR rows every operation an instruction can be keeps an `OV` of 1. -/
theorem onlyVxsatWritesClearOv : Obligations.OnlyVxsatWritesClearOv := by
  unfold Obligations.OnlyVxsatWritesClearOv
  intro i s t hexec hset hclear
  by_contra hrow
  have hkept : t.ov = true := (exec_shape i s).ov_sticky hrow hexec hset
  rw [hclear] at hkept
  cases hkept

end Sys2Proof.Machine
end

section
/-!
`State.Inv` through the updates of the state, the shared operations and a step.
-/

namespace Sys2Proof.Machine

open Sys2Proof

/-! The updates of the state. -/

theorem setX_regs {r : Reg} (h : r ≠ 0#5) (s : State) (v : XWord) :
    (s.setX r v).regs = s.regs.set r.toNat (wrapX s.cfg.xlen v) r.isLt := by
  simp only [State.setX, if_neg h]

/-- The invariant speaks of the parameters, the registers, the pc and memory only. -/
theorem State.Inv.congr {s t : State} (h : s.Inv) (hcfg : t.cfg = s.cfg) (hregs : t.regs = s.regs)
    (hpc : t.pc = s.pc) (hmem : t.mem = s.mem) : t.Inv where
  sorted := by rw [hmem]; exact h.sorted
  region := by rw [hmem, hcfg]; exact h.region
  zero := by rw [hregs]; exact h.zero
  fits := by rw [hregs, hcfg]; exact h.fits
  pcFits := by rw [hpc, hcfg]; exact h.pcFits
  pcAligned := by rw [hpc]; exact h.pcAligned

/-- A register write is cut to XLEN bits and leaves the stored `x0` (rule R20). -/
theorem State.Inv.setX {s : State} (h : s.Inv) (r : Reg) (v : XWord) : (s.setX r v).Inv := by
  by_cases hr : r = 0#5
  · rw [hr, setX_zero]; exact h
  have hregs := setX_regs hr s v
  have hpos : r.toNat ≠ 0 := fun e => hr (BitVec.eq_of_toNat_eq e)
  exact
    { sorted := by rw [setX_mem]; exact h.sorted
      region := by rw [setX_mem, setX_cfg]; exact h.region
      zero := by rw [hregs, Vector.getElem_set_ne _ _ hpos]; exact h.zero
      fits := fun q => by
        rw [hregs, setX_cfg, Fin.getElem_fin, Vector.getElem_set]
        split
        · exact wrapX_wrapX _ _
        · exact h.fits q
      pcFits := by rw [setX_pc, setX_cfg]; exact h.pcFits
      pcAligned := by rw [setX_pc]; exact h.pcAligned }

/-- Writing a pair is two register writes or none (rules R22, R23). -/
theorem State.Inv.setPair {s : State} (h : s.Inv) (f : Reg) (v : XWord) : (s.setPair f v).Inv := by
  unfold State.setPair
  split
  · exact h
  · exact (h.setX _ _).setX _ _

theorem State.Inv.setX64 {s : State} (h : s.Inv) (f : Reg) (v : XWord) : (s.setX64 f v).Inv := by
  unfold State.setX64
  split
  · exact h.setPair f v
  · exact h.setX f v

/-- A new pc that fits in XLEN bits and is a multiple of 4 (rules R21, R44). -/
theorem State.Inv.withPc {s : State} (h : s.Inv) {pc : XWord} (hfits : wrapX s.cfg.xlen pc = pc)
    (haligned : aligned pc 4 = true) : ({ s with pc := pc } : State).Inv :=
  { h with pcFits := hfits, pcAligned := haligned }

/-- The instruction after an aligned one is aligned, also where the pc wraps around (rule R21). -/
theorem aligned_wrapX_add_four (x : Xlen) {pc : XWord} (h : aligned pc 4 = true) :
    aligned (wrapX x (pc + 4#64)) 4 = true := by
  simp only [aligned, beq_iff_eq, toNat_wrapX, BitVec.toNat_add, BitVec.toNat_ofNat] at h ⊢
  cases x <;> simp only [Xlen.bits] <;> omega

theorem State.Inv.advance {s : State} (h : s.Inv) : s.advance.Inv :=
  h.withPc (wrapX_wrapX _ _) (aligned_wrapX_add_four _ h.pcAligned)

theorem State.Inv.noteClip {s : State} (h : s.Inv) (clip : Bool) : (s.noteClip clip).Inv :=
  h.congr (noteClip_cfg s clip) (noteClip_regs s clip) (noteClip_pc s clip) (noteClip_mem s clip)

theorem State.Inv.setOv {s : State} (h : s.Inv) (ov : Bool) : (s.setOv ov).Inv := h.congr rfl rfl rfl rfl

/-- A store inside the region keeps the canonical form and lists no address outside (rules R41, R46). -/
theorem State.Inv.write {s : State} (h : s.Inv) {addr n : Nat} (v : Nat) (hregion : s.inRegion addr n = true) :
    ({ s with mem := Memory.write s.mem addr n v } : State).Inv :=
  { h with
    sorted := wf_write s.mem addr n v h.sorted
    region := fun c hc => by
      obtain ⟨hlow, hhigh⟩ : s.cfg.memBase ≤ addr ∧ addr + n ≤ s.cfg.memBase + s.cfg.memSize :=
        of_decide_eq_true hregion
      rcases mem_write s.mem addr n v c hc with ⟨hfrom, hto⟩ | hold
      · exact ⟨hlow.trans hfrom, hto.trans_le hhigh⟩
      · exact h.region c hold }

/-! The shared operations. -/

theorem State.Inv.writeBits {s t : State} (h : s.Inv) {rd : Reg} {v : XWord} (hr : s.writeBits rd v = .next t) :
    t.Inv := by
  injection hr with ht
  exact ht ▸ (h.setX rd v).advance

theorem State.Inv.clipped {s t u : State} (h : u.Inv) {clip : Bool} (hr : s.clipped u clip = .next t) : t.Inv := by
  obtain ⟨-, hnext⟩ := vxsatAccess_next hr
  injection hnext with ht
  exact ht ▸ (h.noteClip clip).advance

/-- Every operation but a jump keeps the invariant; a jump's target is BNE's to bound (rule R83). -/
theorem ExecShape.inv {s t : State} {row : Row} {r : Result} (hshape : ExecShape s row r) (hrow : row ≠ .bne)
    (h : s.Inv) (hr : r = .next t) : t.Inv := by
  cases hshape with
  | writesX _ rd v => exact h.writeBits hr
  | writes64 _ rd v =>
    injection hr with ht
    exact ht ▸ (h.setX64 rd v).advance
  | clipsX _ rd v clip => exact (h.setX rd v).clipped hr
  | clips64 _ rd v clip => exact (h.setX64 rd v).clipped hr
  | loads _ rd addr n ext =>
    obtain ⟨-, -, v, -, hv⟩ := load_next hr
    exact h.writeBits hv
  | stores _ addr n v =>
    obtain ⟨-, hregion, rfl⟩ := store_next hr
    exact (h.write v hregion).advance
  | advances hbne => exact absurd hbne hrow
  | jumps hbne => exact absurd hbne hrow
  | stops => cases hr
  | readsOv _ rd =>
    obtain ⟨-, hnext⟩ := vxsatAccess_next hr
    exact h.writeBits hnext
  | writesOv _ rd ov =>
    obtain ⟨-, hnext⟩ := vxsatAccess_next hr
    injection hnext with ht
    exact ht ▸ ((h.setX rd s.vxsat).setOv ov).advance

/-! BNE, and every instruction. -/

theorem eq_bne_of_row {i : Instr} (h : i.row = .bne) : ∃ rs1 rs2 offset, i = .bne rs1 rs2 offset := by
  cases i with
  | bne rs1 rs2 offset => exact ⟨rs1, rs2, offset, rfl⟩
  | _ => cases h

/-- A taken BNE goes to a target cut to XLEN bits, and only to a multiple of 4 (rules R44, R83). -/
theorem State.Inv.execBne {s t : State} (h : s.Inv) {rs1 rs2 : Reg} {offset : BitVec 13}
    (hr : execBne rs1 rs2 offset s = .next t) : t.Inv := by
  unfold Machine.execBne at hr
  split at hr
  · injection hr with ht
    exact ht ▸ h.advance
  · obtain ⟨haligned, rfl⟩ := jump_next hr
    exact h.withPc (wrapX_wrapX _ _) haligned

theorem State.Inv.exec {s t : State} (h : s.Inv) {i : Instr} (hr : exec i s = .next t) : t.Inv := by
  by_cases hrow : i.row = .bne
  · obtain ⟨rs1, rs2, offset, rfl⟩ := eq_bne_of_row hrow
    exact h.execBne hr
  · exact (exec_shape i s).inv hrow h hr

/-! A step. -/

/-- A step that answers a next state is the stutter at `END_PC` or an instruction that completes (rules R583, R586). -/
theorem step_next {s t : State} (h : step s = .next t) : t = s ∨ ∃ i, exec i s = .next t := by
  unfold step State.cycle at h
  split at h
  · injection h with ht
    exact .inl ht.symm
  · split at h
    next w _ =>
      unfold State.runWord at h
      split at h
      next row _ => exact .inr ⟨instrOf row w, h⟩
      next => cases h
    next => cases h

/-- Settles O3: a step is an instruction that completes or the stutter at the end of the run, and each operation an
instruction can be keeps the invariant. -/
theorem stepKeepsInvariant : Obligations.StepKeepsInvariant := by
  unfold Obligations.StepKeepsInvariant
  intro s t h hstep
  rcases step_next hstep with rfl | ⟨i, hexec⟩
  · exact h
  · exact h.exec hexec

end Sys2Proof.Machine
end

section
/-!
`OV`, the VS fields and the CSR instructions: what leaves the flags, and the two ways an instruction accesses `vxsat`.
-/

namespace Sys2Proof.Machine

open Sys2Proof

/-! Instructions outside the vxsat class. -/

theorem writeBits_flagsKept {s t : State} {rd : Reg} {v : XWord} (h : s.writeBits rd v = .next t) :
    FlagsKept s t := by
  injection h with ht
  subst ht
  exact ⟨setX_ov s rd v, setX_vs s rd v, setX_vsVs s rd v⟩

/-- An operation outside the vxsat class leaves the flags (rules R26, R553, R555). -/
theorem ExecShape.flagsKept {s t : State} {row : Row} {r : Result} (hshape : ExecShape s row r)
    (hrow : (rowInfo row).vxsat = .none) (hr : r = .next t) : FlagsKept s t := by
  cases hshape with
  | writesX _ rd v => exact writeBits_flagsKept hr
  | writes64 _ rd v =>
    injection hr with ht
    subst ht
    exact ⟨setX64_ov s rd v, setX64_vs s rd v, setX64_vsVs s rd v⟩
  | loads _ rd addr n ext =>
    obtain ⟨-, -, v, -, hv⟩ := load_next hr
    exact writeBits_flagsKept hv
  | stores _ addr n v =>
    obtain ⟨-, -, rfl⟩ := store_next hr
    exact ⟨rfl, rfl, rfl⟩
  | advances =>
    injection hr with ht
    subst ht
    exact ⟨rfl, rfl, rfl⟩
  | jumps _ target =>
    obtain ⟨-, rfl⟩ := jump_next hr
    exact ⟨rfl, rfl, rfl⟩
  | stops => cases hr
  | clipsX h | clips64 h | readsOv h | writesOv h =>
    rw [hrow] at h
    cases h

theorem accessesVxsat_eq_false {row : Row} : accessesVxsat row = false ↔ (rowInfo row).vxsat = .none := by
  simp [accessesVxsat]

/-- Settles O13: every operation that a row outside the vxsat class can be leaves the flags. -/
theorem onlyVxsatClassTouchesFlags : Obligations.OnlyVxsatClassTouchesFlags := by
  unfold Obligations.OnlyVxsatClassTouchesFlags
  intro i s t hrow hexec
  exact (exec_shape i s).flagsKept (accessesVxsat_eq_false.mp hrow) hexec

/-! The two accesses to `vxsat`: a read of it into `x[rd]`, and a read with a write of `OV`. -/

/-- `x[rd] <- vxsat`, and `OV` stays (rules R27, R29). -/
def State.readOv (s : State) (rd : Reg) : Result := s.vxsatAccess (s.writeBits rd s.vxsat)

/-- `x[rd] <- vxsat` and `OV <- ov` (rules R28, R29). -/
def State.writeOv (s : State) (rd : Reg) (ov : Bool) : Result :=
  s.vxsatAccess (.next ((s.setX rd s.vxsat).setOv ov).advance)

section Meanings

variable (s : State) (rd rs1 : Reg) (u : BitVec 5)

theorem exec_rdov : exec (.rdov rd) s = s.readOv rd := rfl
theorem exec_clrov : exec .clrov s = s.writeOv 0#5 false := rfl
theorem exec_csrrw : exec (.csrrw rd rs1) s = s.writeOv rd ((s.x rs1).getLsbD 0) := rfl
theorem exec_csrrwi : exec (.csrrwi rd u) s = s.writeOv rd (u.getLsbD 0) := rfl

/-! A set or clear whose source field is not 0 writes. -/

theorem exec_csrrs (h : rs1 ≠ 0#5) : exec (.csrrs rd rs1) s = s.writeOv rd (s.ov || (s.x rs1).getLsbD 0) :=
  congrArg s.vxsatAccess (if_neg h)
theorem exec_csrrc (h : rs1 ≠ 0#5) : exec (.csrrc rd rs1) s = s.writeOv rd (s.ov && !(s.x rs1).getLsbD 0) :=
  congrArg s.vxsatAccess (if_neg h)
theorem exec_csrrsi (h : u ≠ 0#5) : exec (.csrrsi rd u) s = s.writeOv rd (s.ov || u.getLsbD 0) :=
  congrArg s.vxsatAccess (if_neg h)
theorem exec_csrrci (h : u ≠ 0#5) : exec (.csrrci rd u) s = s.writeOv rd (s.ov && !u.getLsbD 0) :=
  congrArg s.vxsatAccess (if_neg h)

/-! With source field 0 it only reads. -/

theorem exec_csrrs_zero : exec (.csrrs rd 0#5) s = s.readOv rd := congrArg s.vxsatAccess (if_pos rfl)
theorem exec_csrrc_zero : exec (.csrrc rd 0#5) s = s.readOv rd := congrArg s.vxsatAccess (if_pos rfl)
theorem exec_csrrsi_zero : exec (.csrrsi rd 0#5) s = s.readOv rd := congrArg s.vxsatAccess (if_pos rfl)
theorem exec_csrrci_zero : exec (.csrrci rd 0#5) s = s.readOv rd := congrArg s.vxsatAccess (if_pos rfl)

end Meanings

/-- The value read from `vxsat` fits in XLEN bits. -/
theorem wrapX_vxsat (s : State) : wrapX s.cfg.xlen s.vxsat = ovWord s := by
  unfold State.vxsat ovWord
  cases s.cfg.xlen <;> cases s.ov <;> rfl

theorem csrReads_of_readOv {s : State} {i : Instr} {rd : Reg} (h : exec i s = s.readOv rd) : CsrReads s i rd := by
  intro hoff
  obtain ⟨t, he, hframe, hkept, hx⟩ := writeBits_effect s rd s.vxsat
  refine ⟨t, ?_, hframe, hkept, fun hrd => (hx hrd).trans (wrapX_vxsat s)⟩
  rw [h, State.readOv, vxsatAccess_on _ _ hoff, he]

theorem csrWrites_of_writeOv {s : State} {i : Instr} {rd : Reg} {ov : Bool} (h : exec i s = s.writeOv rd ov) :
    CsrWrites s i rd ov := by
  intro hoff
  have hframe : Frame s ((s.setX rd s.vxsat).setOv ov).advance [rd] :=
    (frame_setX s rd s.vxsat).of_same rfl rfl rfl rfl rfl
  have hdirty : MadeDirty s ((s.setX rd s.vxsat).setOv ov).advance :=
    madeDirty_setOv s _ ov hoff (setX_cfg s rd _) (setX_v s rd _) (setX_vs s rd _) (setX_vsVs s rd _)
  refine ⟨_, h.trans (vxsatAccess_on _ _ hoff), hframe, rfl, hdirty, fun hrd => ?_⟩
  calc (((s.setX rd s.vxsat).setOv ov).advance).x rd
      = (s.setX rd s.vxsat).x rd := rfl
    _ = wrapX s.cfg.xlen s.vxsat := x_setX_same s rd _ hrd
    _ = ovWord s := wrapX_vxsat s

/-- A write to `x0` alone writes no register (rule R20). -/
theorem Frame.of_zero {s t : State} (h : Frame s t [0#5]) : Frame s t [] :=
  { h with
    regs := fun r _ => by
      by_cases hr : r = 0#5
      · exact h.regs r (.inl hr)
      · exact h.regs r (.inr fun hmem => hr (List.mem_singleton.mp hmem)) }

theorem encode_rdov (rd : Reg) :
    encode (.rdov rd) = 0b000000001001#12 ++ 0b00000#5 ++ 0b010#3 ++ rd ++ 0b1110011#7 := rfl

/-- Settles O22: RDOV is the read of `vxsat`, CLROV the write of 0 with `x0` as destination. -/
theorem rdovAndClrov : Obligations.RdovAndClrov := by
  unfold Obligations.RdovAndClrov
  intro s rd
  refine ⟨encode_rdov rd, rfl, csrReads_of_readOv (exec_rdov s rd), fun hoff => ?clears, fun hoff => ?off⟩
  case clears =>
    obtain ⟨t, he, hframe, hov, hdirty, -⟩ := csrWrites_of_writeOv (exec_clrov s) hoff
    exact ⟨t, he, hframe.of_zero, hov, hdirty⟩
  case off => exact ⟨vxsatAccess_off s _ hoff, vxsatAccess_off s _ hoff⟩

/-- Settles O23: each form is the read of `vxsat`, or the read and the write with its own new `OV`. -/
theorem csrAccessToVxsat : Obligations.CsrAccessToVxsat := by
  unfold Obligations.CsrAccessToVxsat
  intro s rd rs1 u
  exact ⟨csrWrites_of_writeOv (exec_csrrw s rd rs1), csrWrites_of_writeOv (exec_csrrwi s rd u),
    fun h => csrWrites_of_writeOv (exec_csrrs s rd rs1 h), fun h => csrWrites_of_writeOv (exec_csrrc s rd rs1 h),
    fun h => csrWrites_of_writeOv (exec_csrrsi s rd u h), fun h => csrWrites_of_writeOv (exec_csrrci s rd u h),
    csrReads_of_readOv (exec_csrrs_zero s rd), csrReads_of_readOv (exec_csrrc_zero s rd),
    csrReads_of_readOv (exec_csrrsi_zero s rd), csrReads_of_readOv (exec_csrrci_zero s rd)⟩

end Sys2Proof.Machine
end

section
/-!
Names that share a word (rules R27, R28, R79, R244, R259): their meanings are one operation, written in words by one
name and in halves of words, or with a 64-bit operand, by the other.
-/

namespace Sys2Proof.Machine

open Sys2Proof

/-! Lanes of one width, and of half the width. -/

theorem setWidth_append_eq_or {w : Nat} (hi lo : BitVec w) :
    (hi ++ lo).setWidth 64 = lo.setWidth 64 ||| (hi.setWidth 64 <<< w) := by
  apply BitVec.eq_of_getLsbD_eq
  intro b hb
  by_cases h : b < w
  · simp [BitVec.getLsbD_append, hb, h]
  · simp [BitVec.getLsbD_append, hb, h, BitVec.getLsbD_of_ge lo b (by omega)]

/-- n lanes that are each two halves are 2n lanes of half the width (rule R11). -/
theorem packLanes_halves (w n : Nat) (f : Nat → BitVec w) :
    packLanes (w + w) n (fun j => f (2 * j + 1) ++ f (2 * j)) = packLanes w (2 * n) f := by
  induction n with
  | zero => rfl
  | succ n ih =>
    have heven : (w + w) * n = w * (2 * n) := by ring
    have hodd : w + w * (2 * n) = w * (2 * n + 1) := by ring
    rw [packLanes, ih, setWidth_append_eq_or, BitVec.shiftLeft_or_distrib, ← BitVec.shiftLeft_add, heven, hodd,
      ← BitVec.or_assoc]
    rfl

theorem trunc_uval {w : Nat} (v : BitVec w) : trunc w (uval v) = v := by
  apply BitVec.eq_of_toNat_eq
  have h : uval v < 2 ^ w := by
    unfold uval
    exact_mod_cast v.isLt
  exact Int.ofNat_inj.mp (toNat_trunc_of w (uval v) (Int.natCast_nonneg _) h)

/-- Lanes that are each joined from two halves are twice as many lanes of half the width (rules R11, R14). -/
theorem lanesOf_join {s : State} {w : Nat} (hlanes : s.lanes w = 2 * s.lanes (w + w)) (f : Nat → BitVec w) :
    s.lanesOf (w + w) (fun j => join w (uval (f (2 * j + 1))) (uval (f (2 * j)))) =
      s.lanesOf w fun j => uval (f j) := by
  simp only [State.lanesOf, trunc_join, trunc_uval, hlanes, packLanes_halves]

/-! One lane that fills the register. -/

theorem setX_congr {s : State} {v w : XWord} (rd : Reg) (h : wrapX s.cfg.xlen v = wrapX s.cfg.xlen w) :
    s.setX rd v = s.setX rd w := by
  unfold State.setX
  rw [h]

theorem setWidth_trunc {n m : Nat} (h : n ≤ m) (k : Int) : (trunc m k).setWidth n = trunc n k := by
  apply BitVec.eq_of_toNat_eq
  apply Int.ofNat_inj.mp
  rw [BitVec.toNat_setWidth, Int.natCast_mod, toNat_trunc, toNat_trunc]
  push_cast
  exact Int.emod_emod_of_dvd k (pow_dvd_pow 2 h)

/-- An XLEN-bit number is the same in a register whether it is cut to XLEN bits or to 64 (rule R20). -/
theorem wrapX_trunc_xlen (x : Xlen) (k : Int) : wrapX x ((trunc x.bits k).setWidth 64) = wrapX x (trunc 64 k) := by
  cases x
  · have hcut : ((trunc 32 k).setWidth 64).setWidth 32 = trunc 32 k := BitVec.setWidth_setWidth_of_le _ (by decide)
    simp only [wrapX, Xlen.bits, hcut, setWidth_trunc (show 32 ≤ 64 by decide)]
  · exact BitVec.setWidth_eq _

/-- The single lane of XLEN bits is the whole register. -/
theorem writeLanes_xlen (s : State) (rd : Reg) (f : Nat → Int) : s.writeLanes rd s.xlen f = s.writeX rd (f 0) := by
  have hone : s.lanes s.xlen = 1 := Nat.div_self (by unfold State.xlen; cases s.cfg.xlen <;> decide)
  have hlane : s.lanesOf s.xlen f = (trunc s.xlen (f 0)).setWidth 64 := by
    simp [State.lanesOf, hone, packLanes]
  have hreg : s.setX rd (s.lanesOf s.xlen f) = s.setX rd (trunc 64 (f 0)) :=
    setX_congr rd (by rw [hlane]; exact wrapX_trunc_xlen _ _)
  rw [State.writeLanes, State.writeX, State.writeBits, State.writeBits, hreg]

/-- The two lanes of XLEN/2 bits are the register that joins them. -/
theorem writeLanes_half_xlen {s : State} {w : Nat} (hw : s.xlen = w + w) (rd : Reg) (f : Nat → BitVec w) :
    s.writeLanes rd w (fun j => uval (f j)) = s.writeX rd (join w (uval (f 1)) (uval (f 0))) := by
  have hpos : 0 < s.xlen := by unfold State.xlen; cases s.cfg.xlen <;> decide
  have hlanes : s.lanes w = 2 * s.lanes (w + w) := by
    rw [State.lanes, State.lanes, hw, Nat.div_self (by omega)]
    exact Nat.div_eq_of_eq_mul_left (by omega) (by ring)
  calc s.writeLanes rd w (fun j => uval (f j))
      = s.writeLanes rd s.xlen (fun j => join w (uval (f (2 * j + 1))) (uval (f (2 * j)))) := by
        rw [hw, State.writeLanes, State.writeLanes, lanesOf_join hlanes]
    _ = s.writeX rd (join w (uval (f 1)) (uval (f 0))) := writeLanes_xlen s rd _

theorem execPack_eq_join {s : State} {w : Nat} (hw : s.xlen = w + w) (rd rs1 rs2 : Reg) :
    execPack rd rs1 rs2 s = s.writeX rd (join w (s.ul w rs2 0) (s.ul w rs1 0)) := by
  have hhalf : s.xlen / 2 = w := by omega
  rw [execPack, hhalf]
  exact writeLanes_half_xlen hw rd fun j => lane w (s.x (if j = 0 then rs1 else rs2)) 0

theorem execPacku_eq_join {s : State} {w : Nat} (hw : s.xlen = w + w) (rd rs1 rs2 : Reg) :
    execPacku rd rs1 rs2 s = s.writeX rd (join w (s.ul w rs2 1) (s.ul w rs1 1)) := by
  have hhalf : s.xlen / 2 = w := by omega
  rw [execPacku, hhalf]
  exact writeLanes_half_xlen hw rd fun j => lane w (s.x (if j = 0 then rs1 else rs2)) 1

/-! On RV64 a 64-bit operand is one GPR (rule R360). -/

section Rv64

variable {s : State} (hx : s.cfg.xlen = .rv64)
include hx

theorem x64_of_rv64 (f : Reg) : s.x64 f = s.x f := by rw [State.x64, hx]

theorem setX64_of_rv64 (f : Reg) (v : XWord) : s.setX64 f v = s.setX f v := by rw [State.setX64, hx]

theorem write64_of_rv64 (rd : Reg) (k : Int) : s.write64 rd k = s.writeX rd k := by
  rw [State.write64, setX64_of_rv64 hx]
  rfl

theorem clip64_of_rv64 (rd : Reg) (r : Clipped) : s.clip64 rd r = s.clipX rd r := by
  rw [State.clip64, setX64_of_rv64 hx, State.clipX]

theorem sval_x64_of_rv64 (f : Reg) : sval (s.x64 f) = s.sx f := by
  rw [x64_of_rv64 hx, State.sx, hx, signedX]

theorem wordSum_of_rv64 (f : Nat → Int) : s.wordSum f = f 0 + f 1 := by
  have htwo : s.lanes 32 = 2 := by rw [State.lanes, State.xlen, hx]; rfl
  simp [State.wordSum, htwo, sumOver]

theorem exec_smbb32_eq_mulsr64 (rd rs1 rs2 : Reg) : exec (.smbb32 rd rs1 rs2) s = exec (.mulsr64 rd rs1 rs2) s :=
  (write64_of_rv64 hx rd _).symm

theorem exec_kmada32_eq_kmar64 (rd rs1 rs2 : Reg) : exec (.kmada32 rd rs1 rs2) s = exec (.kmar64 rd rs1 rs2) s := by
  show execKmada32 rd rs1 rs2 s = execKmar64 rd rs1 rs2 s
  rw [execKmada32, execKmar64, clip64_of_rv64 hx, sval_x64_of_rv64 hx, wordSum_of_rv64 hx, add_right_comm, add_assoc]

theorem xlen_of_rv64 : s.xlen = 32 + 32 := by rw [State.xlen, hx]; rfl

theorem exec_pkbb32_eq_pack (rd rs1 rs2 : Reg) : exec (.pkbb32 rd rs1 rs2) s = exec (.pack rd rs2 rs1) s :=
  (execPack_eq_join (xlen_of_rv64 hx) rd rs2 rs1).symm

theorem exec_pktt32_eq_packu (rd rs1 rs2 : Reg) : exec (.pktt32 rd rs1 rs2) s = exec (.packu rd rs2 rs1) s :=
  (execPacku_eq_join (xlen_of_rv64 hx) rd rs2 rs1).symm

end Rv64

/-! On RV32 a GPR is one word (rule R11). -/

section Rv32

variable {s : State} (hx : s.cfg.xlen = .rv32)
include hx

theorem xlen_of_rv32 : s.xlen = 16 + 16 := by rw [State.xlen, hx]; rfl

theorem writeLanes_word_of_rv32 (rd : Reg) (f : Nat → Int) : s.writeLanes rd 32 f = s.writeX rd (f 0) := by
  rw [← writeLanes_xlen, xlen_of_rv32 hx]

theorem exec_pkbb16_eq_pack (rd rs1 rs2 : Reg) : exec (.pkbb16 rd rs1 rs2) s = exec (.pack rd rs2 rs1) s :=
  (writeLanes_word_of_rv32 hx rd _).trans (execPack_eq_join (xlen_of_rv32 hx) rd rs2 rs1).symm

theorem exec_pktt16_eq_packu (rd rs1 rs2 : Reg) : exec (.pktt16 rd rs1 rs2) s = exec (.packu rd rs2 rs1) s :=
  (writeLanes_word_of_rv32 hx rd _).trans (execPacku_eq_join (xlen_of_rv32 hx) rd rs2 rs1).symm

theorem exec_clz32_eq_clz (rd rs1 : Reg) : exec (.clz32 rd rs1) s = exec (.clz rd rs1) s := by
  have hword : lane 32 (s.x rs1) 0 = (s.x rs1).setWidth 32 := by
    rw [lane, Nat.mul_zero, BitVec.setWidth_eq_extractLsb' (by decide)]
  calc exec (.clz32 rd rs1) s
      = s.writeX rd (clzOf (lane 32 (s.x rs1) 0)) := writeLanes_word_of_rv32 hx rd _
    _ = exec (.clz rd rs1) s := by rw [hword]; rfl

end Rv32

/-! At both widths. -/

theorem partner_even (j : Nat) : partner (2 * j) = 2 * j + 1 := by
  rw [partner, if_neg (by omega)]

theorem partner_odd (j : Nat) : partner (2 * j + 1) = 2 * j := by
  rw [partner, if_pos (by omega), Nat.add_sub_cancel]

/-- Swapping the halfwords of each word is joining them in the other order (rule R244). -/
theorem exec_swap16_eq_pkbt16 (s : State) (rd rs1 : Reg) : exec (.swap16 rd rs1) s = exec (.pkbt16 rd rs1 rs1) s := by
  have hlanes : s.lanes 16 = 2 * s.lanes (16 + 16) := by
    unfold State.lanes State.xlen
    cases s.cfg.xlen <;> rfl
  have hjoin := lanesOf_join hlanes fun j => lane 16 (s.x rs1) (partner j)
  simp only [partner_even, partner_odd] at hjoin
  exact congrArg (s.writeBits rd) hjoin.symm

/-- Settles O20: the two names of each pair are one operation. -/
theorem sharedWordsAgree : Obligations.SharedWordsAgree := by
  unfold Obligations.SharedWordsAgree
  refine ⟨fun s rd => ?rdov, fun s => ?clrov, fun s rd rs1 => ?swaps, fun s rd rs1 rs2 hx => ?rv64,
    fun s rd rs1 rs2 hx => ?rv32⟩
  case rdov => rw [exec_rdov, exec_csrrs_zero]
  case clrov =>
    have hclear : (s.ov && !(1#5).getLsbD 0) = false := Bool.and_false s.ov
    rw [exec_clrov, exec_csrrci s 0#5 1#5 (by decide), hclear]
  case swaps => exact ⟨exec_swap16_eq_pkbt16 s rd rs1, rfl⟩
  case rv64 =>
    exact ⟨rfl, exec_smbb32_eq_mulsr64 hx rd rs1 rs2, rfl, exec_kmada32_eq_kmar64 hx rd rs1 rs2,
      rfl, exec_pkbb32_eq_pack hx rd rs1 rs2, rfl, exec_pktt32_eq_packu hx rd rs1 rs2⟩
  case rv32 =>
    exact ⟨rfl, exec_pkbb16_eq_pack hx rd rs1 rs2, exec_pktt16_eq_packu hx rd rs1 rs2, exec_clz32_eq_clz hx rd rs1⟩

end Sys2Proof.Machine
end

section
/-!
Register pairs on RV32 (rules R22, R23).
-/

namespace Sys2Proof.Machine

open Sys2Proof

section Rv32

variable {s : State} (hx : s.cfg.xlen = .rv32)
include hx

theorem x64_of_rv32 (f : Reg) : s.x64 f = s.pair f := by rw [State.x64, hx]

theorem setX64_of_rv32 (f : Reg) (v : XWord) : s.setX64 f v = s.setPair f v := by rw [State.setX64, hx]

/-- A word fits in a register. -/
theorem wrapX_word_of_rv32 (v : BitVec 32) : wrapX s.cfg.xlen (v.setWidth 64) = v.setWidth 64 := by
  rw [hx, wrapX, BitVec.setWidth_setWidth_of_le v (by decide), BitVec.setWidth_eq]

end Rv32

/-- Settles O19: the pair of `x0` is named by its lower register, which is `x0`. -/
theorem pairOfZeroRegister : Obligations.PairOfZeroRegister := by
  unfold Obligations.PairOfZeroRegister
  intro s v hx
  have hzero : pairLow 0#5 = 0#5 := rfl
  exact ⟨(x64_of_rv32 hx 0#5).trans (if_pos hzero), (setX64_of_rv32 hx 0#5 v).trans (setPair_zero s 0#5 v hzero)⟩

theorem pairLow_of_even : ∀ {f : Reg}, f.getLsbD 0 = false → pairLow f = f := by decide

theorem pairHigh_of_even : ∀ {f : Reg}, f.getLsbD 0 = false → pairHigh f = f + 1#5 := by decide

/-- The halves of a pair, by register (rule R22). -/
theorem pair_eq {s : State} {f : Reg} (h : pairLow f ≠ 0#5) :
    s.pair f = (s.x (pairHigh f)).setWidth 32 ++ (s.x (pairLow f)).setWidth 32 := if_neg h

/-- What the two registers of a pair hold after a write to it (rule R22). -/
theorem x_setPair_low (s : State) {f : Reg} (h : pairLow f ≠ 0#5) (v : XWord) :
    (s.setPair f v).x (pairLow f) = wrapX s.cfg.xlen ((v.extractLsb' 0 32).setWidth 64) := by
  rw [State.setPair, if_neg h, x_setX_other _ _ _ _ (pairLow_ne_pairHigh f), x_setX_same _ _ _ h]

theorem x_setPair_high (s : State) {f : Reg} (h : pairLow f ≠ 0#5) (v : XWord) :
    (s.setPair f v).x (pairHigh f) = wrapX s.cfg.xlen ((v.extractLsb' 32 32).setWidth 64) := by
  rw [State.setPair, if_neg h, x_setX_same _ _ _ (pairHigh_ne_zero f), setX_cfg]

/-- A write to a GPR changes no state but the registers. -/
theorem setX_eq_with_regs (s : State) (r : Reg) (v : XWord) : s.setX r v = { s with regs := (s.setX r v).regs } := by
  unfold State.setX
  split <;> rfl

/-- A write to a pair changes no state but the registers (rule R22). -/
theorem setPair_eq_with_regs (s : State) (f : Reg) (v : XWord) :
    s.setPair f v = { s with regs := (s.setPair f v).regs } := by
  unfold State.setPair
  split
  · rfl
  · rw [setX_eq_with_regs (s.setX _ _), setX_eq_with_regs s]

/-- Settles O60: an even field is the lower register of its pair, and the next one the higher. -/
theorem registerPairLayout : Obligations.RegisterPairLayout := by
  unfold Obligations.RegisterPairLayout
  intro s f v hx heven hne
  have hlow := pairLow_of_even heven
  have hpair : pairLow f ≠ 0#5 := hlow.symm ▸ hne
  rw [x64_of_rv32 hx, setX64_of_rv32 hx, pair_eq hpair, ← pairHigh_of_even heven]
  refine ⟨?_, extract_append_high _ _, ?_, ?_, fun r hr hr' => ?_, setPair_eq_with_regs s f v⟩
  · rw [hlow]
    exact extract_append_low _ _
  · have h := x_setPair_low s hpair v
    rwa [hlow, wrapX_word_of_rv32 hx] at h
  · rw [x_setPair_high s hpair v, wrapX_word_of_rv32 hx]
  · exact x_setPair_other s f r v (hlow.symm ▸ hr) hr'

end Sys2Proof.Machine
end

section
/-!
Memory (20_memory.md): the effective address, the outcomes of a fetch, a load and a store at an address, and the bytes
they read and write.
-/

namespace Sys2Proof.Machine

open Sys2Proof

/-! Which accesses are allowed (rules R44, R46). -/

theorem aligned_iff {addr : XWord} {n : Nat} : aligned addr n = true ↔ addr.toNat % n = 0 := beq_iff_eq

theorem aligned_eq_false {addr : XWord} {n : Nat} (h : addr.toNat % n ≠ 0) : aligned addr n = false :=
  Bool.eq_false_iff.mpr (h ∘ aligned_iff.mp)

theorem accessible_iff {s : State} {addr : XWord} {n : Nat} :
    Accessible s addr.toNat n ↔ aligned addr n = true ∧ s.inRegion addr.toNat n = true := by
  rw [aligned_iff, State.inRegion, decide_eq_true_iff]
  rfl

/-- An aligned address whose access is not allowed lies outside the region. -/
theorem not_inRegion_of_not_accessible {s : State} {addr : XWord} {n : Nat} (ha : aligned addr n = true)
    (h : ¬Accessible s addr.toNat n) : s.inRegion addr.toNat n = false :=
  Bool.eq_false_iff.mpr fun hr => h (accessible_iff.mpr ⟨ha, hr⟩)

/-! Loads and stores that raise (rules R44, R46, R559); `load_effect` and `store_effect` say what the others do. -/

section Faults

variable {s : State} {addr : XWord} {n : Nat}

theorem load_misaligned (andThen : Nat → Result) (h : addr.toNat % n ≠ 0) :
    s.load addr n andThen = .fault (.loadAddressMisaligned s.pcv addr) := by
  simp [State.load, aligned_eq_false h, raise]

theorem load_outside (andThen : Nat → Result) (h : addr.toNat % n = 0) (hacc : ¬Accessible s addr.toNat n) :
    s.load addr n andThen = .fault (.loadAccessFault s.pcv addr) := by
  have ha := aligned_iff.mpr h
  simp [State.load, ha, not_inRegion_of_not_accessible ha hacc, raise]

theorem store_misaligned (v : Nat) (h : addr.toNat % n ≠ 0) :
    s.store addr n v = .fault (.storeAddressMisaligned s.pcv addr) := by
  simp [State.store, aligned_eq_false h, raise]

theorem store_outside (v : Nat) (h : addr.toNat % n = 0) (hacc : ¬Accessible s addr.toNat n) :
    s.store addr n v = .fault (.storeAccessFault s.pcv addr) := by
  have ha := aligned_iff.mpr h
  simp [State.store, ha, not_inRegion_of_not_accessible ha hacc, raise]

end Faults

/-! The bytes read (rule R41). -/

/-- A read of several bytes needs each of them. -/
theorem read_eq_none {m : List Host.Cell} {addr n k : Nat} (hk : k < n) (h : Memory.get m (addr + k) = none) :
    Memory.read m addr n = none := by
  induction n generalizing addr k with
  | zero => omega
  | succ n ih =>
    cases k with
    | zero => simp [Memory.read, show Memory.get m addr = none from h]
    | succ k =>
      have hnext : Memory.get m (addr + 1 + k) = none := by rwa [Nat.add_right_comm]
      simp [Memory.read, ih (by omega) hnext]

/-- Bytes that are all there are read as their little-endian value. -/
theorem read_of_bytesAt {s : State} {addr : Nat} {bytes : List Byte} (h : BytesAt s addr bytes) :
    Memory.read s.mem addr bytes.length = some (littleEndian bytes) := by
  induction bytes generalizing addr with
  | nil => rfl
  | cons b rest ih =>
    have hfirst : Memory.get s.mem addr = some b := h 0 (Nat.zero_lt_succ _)
    have hrest : BytesAt s (addr + 1) rest := fun k hk => by
      rw [Nat.add_assoc, Nat.add_comm 1 k]
      exact h (k + 1) (Nat.succ_lt_succ hk)
    simp [Memory.read, hfirst, ih hrest, littleEndian]

theorem littleEndian_lt (bytes : List Byte) : littleEndian bytes < 256 ^ bytes.length := by
  induction bytes with
  | nil => exact Nat.one_pos
  | cons b rest ih =>
    have hb : b.toNat < 256 := b.isLt
    rw [littleEndian, List.length_cons, Nat.pow_succ]
    omega

/-! The bytes written (rules R11, R41). -/

theorem lane_byte_eq_ofNat (v : XWord) (j : Nat) : lane 8 v j = BitVec.ofNat 8 (v.toNat / 256 ^ j) := by
  apply BitVec.eq_of_toNat_eq
  rw [lane, BitVec.extractLsb'_toNat, Nat.shiftRight_eq_div_pow, pow_mul, BitVec.toNat_ofNat, show 2 ^ 8 = 256 from rfl]

/-- The low four bytes of a doubleword are those of its low word. -/
theorem lane_byte_eq_ofNat_word (v : XWord) {j : Nat} (hj : j < 4) :
    lane 8 v j = BitVec.ofNat 8 ((v.setWidth 32).toNat / 256 ^ j) := by
  have hlow : 8 * j + 8 ≤ Xlen.bits .rv32 := by
    show 8 * j + 8 ≤ 32
    omega
  have hzeros : ((v.setWidth 32).setWidth 64).toNat = (v.setWidth 32).toNat :=
    BitVec.toNat_setWidth_of_le (by decide)
  rw [← lane_wrapX .rv32 8 j v hlow, lane_byte_eq_ofNat, wrapX, hzeros]

/-! The effective address (rules R51 to R54). -/

theorem x_add_signExtend (s : State) (rs1 : Reg) (imm : BitVec 12) :
    s.x rs1 + imm.signExtend 64 = trunc 64 (s.ux rs1 + imm.toInt) := by
  have hreg : trunc 64 (s.ux rs1) = s.x rs1 := trunc_uval _
  rw [trunc, BitVec.ofInt_add, ← hreg]
  rfl

theorem toNat_effAddr (s : State) (rs1 : Reg) (imm : BitVec 12) :
    ((s.effAddr rs1 imm).toNat : Int) = (s.ux rs1 + imm.toInt) % 2 ^ s.xlen := by
  rw [State.effAddr, x_add_signExtend, toNat_wrapX]
  push_cast
  rw [toNat_trunc]
  exact Int.emod_emod_of_dvd _ (pow_dvd_pow 2 (bits_le s.cfg.xlen))

/-! LW, LD, SW and SD (rules R51 to R54) as loads and stores. -/

section Meanings

variable (s : State) (rd rs1 rs2 : Reg) (imm : BitVec 12)

theorem exec_lw : exec (.lw rd rs1 imm) s =
    s.load (s.effAddr rs1 imm) 4 fun v => s.writeBits rd ((BitVec.ofNat 32 v).signExtend 64) := rfl
theorem exec_ld : exec (.ld rd rs1 imm) s =
    s.load (s.effAddr rs1 imm) 8 fun v => s.writeBits rd (BitVec.ofNat 64 v) := rfl
theorem exec_sw : exec (.sw rs2 rs1 imm) s = s.store (s.effAddr rs1 imm) 4 ((s.x rs2).setWidth 32).toNat := rfl
theorem exec_sd : exec (.sd rs2 rs1 imm) s = s.store (s.effAddr rs1 imm) 8 (s.x rs2).toNat := rfl

end Meanings

section Loads

variable {s : State} {rs1 : Reg} {imm : BitVec 12}

/-- An allowed LW whose word has a value writes it, sign-extended (rule R51). -/
theorem signed_lw {v : Nat} (rd : Reg) (hacc : Accessible s (s.effAddr rs1 imm).toNat 4)
    (hread : Memory.read s.mem (s.effAddr rs1 imm).toNat 4 = some v) :
    Signed s (.lw rd rs1 imm) rd (BitVec.ofNat 32 v).toInt := by
  obtain ⟨ha, hr⟩ := accessible_iff.mp hacc
  have hword : 31 + 1 ≤ s.cfg.xlen.bits := by cases s.cfg.xlen <;> decide
  exact signed_of ((exec_lw s rd rs1 imm).trans (load_effect s _ 4 v _ ha hr hread))
    (signedX_signExtend s.cfg.xlen _ hword)

/-- On RV64 an allowed LD whose doubleword has a value writes it (rule R53). -/
theorem completes_ld {v : Nat} (rd : Reg) (hx : s.cfg.xlen = .rv64)
    (hacc : Accessible s (s.effAddr rs1 imm).toNat 8)
    (hread : Memory.read s.mem (s.effAddr rs1 imm).toNat 8 = some v) :
    Completes s (.ld rd rs1 imm) [rd] fun t => rd ≠ 0#5 → t.x rd = BitVec.ofNat 64 v := by
  obtain ⟨ha, hr⟩ := accessible_iff.mp hacc
  obtain ⟨t, he, hframe, hkept, hreg⟩ := writeBits_effect s rd (BitVec.ofNat 64 v)
  rw [hx] at hreg
  exact ⟨t, ((exec_ld s rd rs1 imm).trans (load_effect s _ 8 v _ ha hr hread)).trans he, hframe, hkept, hreg⟩

end Loads

theorem Completes.imp {s : State} {i : Instr} {written : List Reg} {p q : State → Prop}
    (h : Completes s i written p) (hpq : ∀ t, p t → q t) : Completes s i written q := by
  obtain ⟨t, he, hframe, hkept, hp⟩ := h
  exact ⟨t, he, hframe, hkept, hpq t hp⟩

/-- Settles O24: a load that is allowed reads the little-endian value of its bytes; the others raise. -/
theorem loadsReadMemory : Obligations.LoadsReadMemory := by
  unfold Obligations.LoadsReadMemory
  intro s rd rs1 imm bytes
  refine ⟨toNat_effAddr s rs1 imm, fun hlen hacc hbytes => ?word, fun hx hlen hacc hbytes => ?double,
    load_misaligned _, load_misaligned _, load_outside _, load_outside _⟩
  case word => exact signed_lw rd hacc (hlen ▸ read_of_bytesAt hbytes)
  case double =>
    have hfits : littleEndian bytes < 2 ^ 64 := by
      have hlt := littleEndian_lt bytes
      rw [hlen] at hlt
      exact hlt
    refine (completes_ld rd hx hacc (hlen ▸ read_of_bytesAt hbytes)).imp fun t ht hrd => ?_
    rw [ht hrd, BitVec.toNat_ofNat, Nat.mod_eq_of_lt hfits]

/-- An allowed store completes with the n low bytes of its value stored (rule R41). -/
theorem stores_of_accessible {s : State} {i : Instr} {addr v : XWord} {n k : Nat} (he : exec i s = s.store addr n k)
    (hacc : Accessible s addr.toNat n) (hbytes : ∀ j, j < n → lane 8 v j = BitVec.ofNat 8 (k / 256 ^ j)) :
    Stores s i addr.toNat n v := by
  obtain ⟨ha, hr⟩ := accessible_iff.mp hacc
  refine ⟨_, he.trans (store_effect s addr n k ha hr), rfl, rfl, fun _ => rfl, ⟨rfl, rfl, rfl⟩, ?pc, fun a => ?byte⟩
  case pc => exact advance_pcv _
  case byte =>
    rw [advance_byte, State.byte, get_write]
    split
    next hin => rw [hbytes (a - addr.toNat) (by omega)]
    next => rfl

/-- Settles O25: a store that is allowed writes the low bytes of `x[rs2]`; the others raise. -/
theorem storesWriteMemory : Obligations.StoresWriteMemory := by
  unfold Obligations.StoresWriteMemory
  intro s rs2 rs1 imm
  exact ⟨toNat_effAddr s rs1 imm,
    fun hacc => stores_of_accessible (exec_sw s rs1 rs2 imm) hacc fun _ hj => lane_byte_eq_ofNat_word _ hj,
    fun hacc => stores_of_accessible (exec_sd s rs1 rs2 imm) hacc fun j _ => lane_byte_eq_ofNat _ j,
    store_misaligned _, store_misaligned _, store_outside _, store_outside _⟩

/-- After a store that completes, the access at the same base and offset is allowed and reads the low n bytes of the
value (rule R41). -/
theorem read_after_store {s t : State} {rs1 : Reg} {imm : BitVec 12} {n v : Nat}
    (h : s.store (s.effAddr rs1 imm) n v = .next t) :
    t.cfg = s.cfg ∧ Accessible t (t.effAddr rs1 imm).toNat n ∧
      Memory.read t.mem (t.effAddr rs1 imm).toNat n = some (v % 256 ^ n) := by
  obtain ⟨ha, hr, rfl⟩ := store_next h
  exact ⟨rfl, accessible_iff.mpr ⟨ha, hr⟩, read_write s.mem (s.effAddr rs1 imm).toNat n v⟩

/-- The low n bytes of a value of n bytes are the value. -/
theorem ofNat_toNat_mod {w n : Nat} (hw : w = 8 * n) (v : BitVec w) : BitVec.ofNat w (v.toNat % 256 ^ n) = v := by
  have hpow : 256 ^ n = 2 ^ w := by rw [hw, pow_mul, show 2 ^ 8 = 256 from rfl]
  rw [hpow, Nat.mod_eq_of_lt v.isLt, BitVec.ofNat_toNat, BitVec.setWidth_eq]

/-- Settles O26: the load finds the access allowed and reads the bytes just stored. -/
theorem storedWordLoadsBack : Obligations.StoredWordLoadsBack := by
  unfold Obligations.StoredWordLoadsBack
  intro s t rd rs2 rs1 imm
  refine ⟨fun hexec => ?word, fun hx hexec => ?double⟩
  case word =>
    obtain ⟨-, hacc, hread⟩ := read_after_store ((exec_sw s rs1 rs2 imm).symm.trans hexec)
    have hload := signed_lw rd hacc hread
    rwa [ofNat_toNat_mod (w := 32) (n := 4) rfl] at hload
  case double =>
    obtain ⟨hcfg, hacc, hread⟩ := read_after_store ((exec_sd s rs1 rs2 imm).symm.trans hexec)
    have hload := completes_ld rd (hcfg ▸ hx) hacc hread
    rwa [ofNat_toNat_mod (w := 64) (n := 8) rfl] at hload

/-! The fetch (rules R44, R46, R50, R559). -/

theorem fetch_misaligned {s : State} (h : s.pcv.toNat % 4 ≠ 0) :
    s.fetch = .error (.instructionAddressMisaligned s.pcv s.pcv) := by
  simp [State.fetch, aligned_eq_false h]

theorem fetch_outside {s : State} (h : s.pcv.toNat % 4 = 0) (hacc : ¬Accessible s s.pcv.toNat 4) :
    s.fetch = .error (.instructionAccessFault s.pcv) := by
  have ha := aligned_iff.mpr h
  simp [State.fetch, ha, not_inRegion_of_not_accessible ha hacc]

theorem fetch_unwritten {s : State} (hacc : Accessible s s.pcv.toNat 4)
    (hread : Memory.read s.mem s.pcv.toNat 4 = none) : s.fetch = .error (.unwrittenMemory s.pcv s.pcv) := by
  obtain ⟨ha, hr⟩ := accessible_iff.mp hacc
  simp [State.fetch, ha, hr, hread]

/-- While the run goes on, what the fetch raises the step raises (rule R559). -/
theorem step_of_fetch_error {s : State} {record : Fault} (hrun : s.ended = false) (h : s.fetch = .error record) :
    step s = .fault record := by
  simp [step, State.cycle, hrun, h, raise]

/-- Settles O9: the fetch checks the alignment, then the region, then that each byte has a value. -/
theorem fetchFaultsInOrder : Obligations.FetchFaultsInOrder := by
  unfold Obligations.FetchFaultsInOrder
  intro s hrun
  refine ⟨fun h => step_of_fetch_error hrun (fetch_misaligned h), fun h hout => ?outside, fun hacc hnone => ?unwritten⟩
  case outside => exact step_of_fetch_error hrun (fetch_outside h fun hacc => hout hacc.2)
  case unwritten =>
    obtain ⟨k, hk, hbyte⟩ := hnone
    exact step_of_fetch_error hrun (fetch_unwritten hacc (read_eq_none hk hbyte))

end Sys2Proof.Machine
end

section
/-!
What an instruction reads of the state, said once for every row: `exec` is one of the shared operations of
Machine/Ops.lean as a function of the state, and its operands read neither memory nor the VS fields.
-/

namespace Sys2Proof.Machine

open Sys2Proof

/-- A value that reads neither memory nor the VS fields. -/
def IgnoresMemVs {α : Type} (f : State → α) : Prop :=
  ∀ (s : State) (m : List Host.Cell) (vs vsVs : VState), f { s with mem := m, vs := vs, vsVs := vsVs } = f s

/-- `ExecShape` for all states at once: which operation the meaning of a row is, and that its operands read neither
memory nor the VS fields. -/
inductive ExecForm (row : Row) : (State → Result) → Prop where
  /-- Writes `x[rd]`. -/
  | writesX (h : (rowInfo row).vxsat = .none) (rd : Reg) (v : State → XWord) (hv : IgnoresMemVs v) :
      ExecForm row fun s => s.writeBits rd (v s)
  /-- Writes `op64(rd)` (rules R22, R360). -/
  | writes64 (h : (rowInfo row).vxsat = .none) (rd : Reg) (v : State → XWord) (hv : IgnoresMemVs v) :
      ExecForm row fun s => .next (s.setX64 rd (v s)).advance
  /-- Writes `x[rd]` and notes whether something clipped (rule R15). -/
  | clipsX (h : (rowInfo row).vxsat = .mayClip) (rd : Reg) (v : State → XWord) (clip : State → Bool)
      (hv : IgnoresMemVs v) (hclip : IgnoresMemVs clip) :
      ExecForm row fun s => s.clipped (s.setX rd (v s)) (clip s)
  /-- Writes `op64(rd)` and notes whether something clipped. -/
  | clips64 (h : (rowInfo row).vxsat = .mayClip) (rd : Reg) (v : State → XWord) (clip : State → Bool)
      (hv : IgnoresMemVs v) (hclip : IgnoresMemVs clip) :
      ExecForm row fun s => s.clipped (s.setX64 rd (v s)) (clip s)
  /-- Loads into `x[rd]` (rules R51, R53). -/
  | loads (h : row ∈ [Row.lw, .ld]) (rd : Reg) (addr : State → XWord) (n : Nat) (ext : Nat → XWord)
      (haddr : IgnoresMemVs addr) : ExecForm row fun s => s.load (addr s) n fun v => s.writeBits rd (ext v)
  /-- Stores (rules R52, R54). -/
  | stores (h : row ∈ [Row.sw, .sd]) (addr : State → XWord) (n : Nat) (v : State → Nat) (haddr : IgnoresMemVs addr)
      (hv : IgnoresMemVs v) : ExecForm row fun s => s.store (addr s) n (v s)
  /-- Goes on with the next instruction or jumps (rule R83). -/
  | branches (h : row = .bne) (rs1 rs2 : Reg) (target : State → XWord) (htarget : IgnoresMemVs target) :
      ExecForm row fun s => if s.x rs1 = s.x rs2 then .next s.advance else s.jump (target s)
  /-- Is no instruction (rule R114). -/
  | stops (h : row ∈ [Row.bpick, .maxw, .minw]) : ExecForm row State.illegal
  /-- Reads `vxsat` and leaves it (rules R27, R29). -/
  | readsOv (h : (rowInfo row).vxsat = .csr) (rd : Reg) : ExecForm row fun s => s.readOv rd
  /-- Reads `vxsat` into `x[rd]` and writes `OV` (rules R28, R29). -/
  | writesOv (h : (rowInfo row).vxsat = .csr) (rd : Reg) (ov : State → Bool) (hov : IgnoresMemVs ov) :
      ExecForm row fun s => s.writeOv rd (ov s)

/-- A CSR instruction that writes `vxsat` only when its source field is not 0 (rule R29). -/
theorem execForm_csr_ite {row : Row} (h : (rowInfo row).vxsat = .csr) (rd : Reg) (ov : State → Bool)
    (hov : IgnoresMemVs ov) (p : Prop) [Decidable p] :
    ExecForm row fun s => s.vxsatAccess
      (if p then s.writeBits rd s.vxsat else .next ((s.setX rd s.vxsat).setOv (ov s)).advance) := by
  by_cases hp : p
  · simp only [if_pos hp]
    exact .readsOv h rd
  · simp only [if_neg hp]
    exact .writesOv h rd ov hov

/-- The rows, sorted by operation as in `exec_shape`. That the operands read neither memory nor the VS fields holds by
unfolding them. -/
theorem exec_form (i : Instr) : ExecForm i.row (exec i) := by
  cases i with
  | rdov => exact .readsOv rfl _
  | clrov => exact .writesOv rfl 0#5 (fun _ => false) fun _ _ _ _ => rfl
  | csrrw | csrrwi => exact .writesOv rfl _ _ fun _ _ _ _ => rfl
  | csrrs | csrrc | csrrsi | csrrci => exact execForm_csr_ite rfl _ _ (fun _ _ _ _ => rfl) _
  | lw | ld => exact .loads (of_decide_eq_true rfl) _ _ _ _ fun _ _ _ _ => rfl
  | sw | sd => exact .stores (of_decide_eq_true rfl) _ _ _ (fun _ _ _ _ => rfl) fun _ _ _ _ => rfl
  | bne => exact .branches rfl _ _ _ fun _ _ _ _ => rfl
  | bpick | maxw | minw => exact .stops (of_decide_eq_true rfl)
  | addi | clz | max | min | pbsad | pbsada | ave | sraU | sraiURv32 | sraiURv64 | smbb32 | smbt32 | smtt32
  | smds32 | smdrs32 | smxds32 | pkbb32 | pkbt32 | pktb32 | pktt32 | lui | cmix | fsr | fsri | fsrw | revRv32
  | revRv64 | bitrev | bitreviRv32 | bitreviRv64 | insbRv32 | insbRv64 | wext | wexti | pack | packu | rev8H
  | add16 | radd16 | uradd16 | sub16 | rsub16 | ursub16 | cras16 | rcras16 | urcras16 | crsa16 | rcrsa16
  | urcrsa16 | stas16 | rstas16 | urstas16 | stsa16 | rstsa16 | urstsa16 | add8 | radd8 | uradd8 | sub8 | rsub8
  | ursub8 | sra16 | srai16 | sra16U | srai16U | srl16 | srli16 | srl16U | srli16U | sll16 | slli16 | sra8 | srai8
  | sra8U | srai8U | srl8 | srli8 | srl8U | srli8U | sll8 | slli8 | cmpeq16 | scmplt16 | scmple16 | ucmplt16
  | ucmple16 | cmpeq8 | scmplt8 | scmple8 | ucmplt8 | ucmple8 | smin16 | umin16 | smax16 | umax16 | clrs16 | clz16
  | swap16 | smin8 | umin8 | smax8 | umax8 | clrs8 | clz8 | swap8 | sunpkd810 | sunpkd820 | sunpkd830 | sunpkd831
  | sunpkd832 | zunpkd810 | zunpkd820 | zunpkd830 | zunpkd831 | zunpkd832 | pkbb16 | pkbt16 | pktt16 | pktb16
  | smmul | smmulRv32 | smmulU | smmwb | smmwbU | smmwt | smmwtU | smbb16 | smbt16 | smtt16 | smds | smdrs | smxds
  | clrs32 | clz32 | smaqa | umaqa | smaqaSu | add32 | radd32 | uradd32 | sub32 | rsub32 | ursub32 | cras32
  | rcras32 | urcras32 | crsa32 | rcrsa32 | urcrsa32 | stas32 | rstas32 | urstas32 | stsa32 | rstsa32 | urstsa32
  | sra32 | srai32 | sra32U | srai32U | srl32 | srli32 | srl32U | srli32U | sll32 | slli32 | smin32 | umin32
  | smax32 | umax32 | raddw | uraddw | rsubw | ursubw | msubr32 | maddr32 | sraiwU =>
    exact .writesX rfl _ _ fun _ _ _ _ => rfl
  | smal | add64 | radd64 | uradd64 | sub64 | rsub64 | ursub64 | smar64 | smsr64 | umar64 | umsr64 | smalbb
  | smalbt | smaltt | smalda | smalxda | smalds | smaldrs | smalxds | smslda | smslxda | mulr64 | mulsr64 | smul16
  | smulx16 | umul16 | umulx16 | smul8 | smulx8 | umul8 | umulx8 => exact .writes64 rfl _ _ fun _ _ _ _ => rfl
  | kadd16 | ukadd16 | ksub16 | uksub16 | kcras16 | ukcras16 | kcrsa16 | ukcrsa16 | kstas16 | ukstas16 | kstsa16
  | ukstsa16 | kadd8 | ukadd8 | ksub8 | uksub8 | ksll16 | kslli16 | kslra16 | kslra16U | ksll8 | kslli8 | kslra8
  | kslra8U | sclip16 | uclip16 | kabs16 | kabs8 | sclip8 | uclip8 | khm16 | khmx16 | khm8 | khmx8 | kmmac
  | kmmacU | kmmsb | kmmsbU | kwmmul | kwmmulU | kmmawb | kmmawbU | kmmawt | kmmawtU | kmmwb2 | kmmwb2U | kmmwt2
  | kmmwt2U | kmmawb2 | kmmawb2U | kmmawt2 | kmmawt2U | kmda | kmxda | kmabb | kmabt | kmatt | kmada | kmaxda
  | kmads | kmadrs | kmaxds | kmsda | kmsxda | sclip32 | uclip32 | kadd32 | ukadd32 | ksub32 | uksub32 | kcras32
  | ukcras32 | kcrsa32 | ukcrsa32 | kstas32 | ukstas32 | kstsa32 | ukstsa32 | ksll32 | kslli32 | kslra32
  | kslra32U | kabs32 | khmbb16 | khmbt16 | khmtt16 | kdmbb16 | kdmbt16 | kdmtt16 | kdmabb16 | kdmabt16 | kdmatt16
  | kaddw | ukaddw | ksubw | uksubw | kdmbb | kdmbt | kdmtt | kslraw | kslrawU | ksllw | kslliw | kdmabb | kdmabt
  | kdmatt | kabsw | kaddh | ksubh | ukaddh | uksubh | khmbb | khmbt | khmtt | kmabb32 | kmabt32 | kmatt32
  | kmda32 | kmxda32 | kmada32 | kmaxda32 | kmads32 | kmadrs32 | kmaxds32 | kmsda32 | kmsxda32 =>
    exact .clipsX rfl _ _ _ (fun _ _ _ _ => rfl) fun _ _ _ _ => rfl
  | kadd64 | ukadd64 | ksub64 | uksub64 | kmar64 | kmsr64 | ukmar64 | ukmsr64 =>
    exact .clips64 rfl _ _ _ (fun _ _ _ _ => rfl) fun _ _ _ _ => rfl

/-! Updates of the state that memory takes no part in (rule R40). -/

/-- The state with another memory. -/
def State.withMem (s : State) (m : List Host.Cell) : State := { s with mem := m }

/-- The update commutes with any exchange of memory, so that it neither reads nor writes it. -/
def CommutesWithMem (g : State → State) : Prop :=
  ∀ (s : State) (m : List Host.Cell), g (s.withMem m) = (g s).withMem m

theorem CommutesWithMem.mem_eq {g : State → State} (h : CommutesWithMem g) (s : State) : (g s).mem = s.mem :=
  calc (g s).mem = ((g s).withMem s.mem).mem := congrArg State.mem (h s s.mem)
    _ = s.mem := rfl

theorem CommutesWithMem.comp {f g : State → State} (hf : CommutesWithMem f) (hg : CommutesWithMem g) :
    CommutesWithMem fun s => f (g s) := fun s m => (congrArg f (hg s m)).trans (hf (g s) m)

theorem IgnoresMemVs.mem {α : Type} {f : State → α} (h : IgnoresMemVs f) (s : State) (m : List Host.Cell) :
    f (s.withMem m) = f s := h s m s.vs s.vsVs

theorem advance_commutesWithMem : CommutesWithMem State.advance := fun _ _ => rfl

theorem setX_withMem (s : State) (m : List Host.Cell) (r : Reg) (v : XWord) :
    (s.withMem m).setX r v = (s.setX r v).withMem m := by
  unfold State.setX
  split <;> rfl

theorem setPair_withMem (s : State) (m : List Host.Cell) (f : Reg) (v : XWord) :
    (s.withMem m).setPair f v = (s.setPair f v).withMem m := by
  unfold State.setPair
  split
  · rfl
  · rw [setX_withMem, setX_withMem]

theorem setX64_withMem (s : State) (m : List Host.Cell) (f : Reg) (v : XWord) :
    (s.withMem m).setX64 f v = (s.setX64 f v).withMem m := by
  cases hx : s.cfg.xlen with
  | rv32 => rw [setX64_of_rv32 hx, setX64_of_rv32 (s := s.withMem m) hx, setPair_withMem]
  | rv64 => rw [setX64_of_rv64 hx, setX64_of_rv64 (s := s.withMem m) hx, setX_withMem]

theorem noteClip_withMem (s : State) (m : List Host.Cell) (clip : Bool) :
    (s.withMem m).noteClip clip = (s.noteClip clip).withMem m := by
  unfold State.noteClip State.withMem
  dsimp only
  split <;> rfl

theorem IgnoresMemVs.setX {v : State → XWord} (hv : IgnoresMemVs v) (rd : Reg) :
    CommutesWithMem fun s => s.setX rd (v s) := fun s m => by
  show (s.withMem m).setX rd (v (s.withMem m)) = _
  rw [hv.mem, setX_withMem]

theorem IgnoresMemVs.setX64 {v : State → XWord} (hv : IgnoresMemVs v) (rd : Reg) :
    CommutesWithMem fun s => s.setX64 rd (v s) := fun s m => by
  show (s.withMem m).setX64 rd (v (s.withMem m)) = _
  rw [hv.mem, setX64_withMem]

theorem CommutesWithMem.noteClip {g : State → State} (hg : CommutesWithMem g) {clip : State → Bool}
    (hclip : IgnoresMemVs clip) : CommutesWithMem fun s => (g s).noteClip (clip s) := fun s m => by
  show (g (s.withMem m)).noteClip (clip (s.withMem m)) = _
  rw [hg, hclip.mem, noteClip_withMem]

theorem CommutesWithMem.setOv {g : State → State} (hg : CommutesWithMem g) {ov : State → Bool}
    (hov : IgnoresMemVs ov) : CommutesWithMem fun s => (g s).setOv (ov s) := fun s m => by
  show (g (s.withMem m)).setOv (ov (s.withMem m)) = _
  rw [hg, hov.mem]
  rfl

/-! Operations that memory takes no part in. -/

/-- The operation, where it completes, leaves memory, and completes in the same way with any other memory. -/
def MemBlind (f : State → Result) : Prop :=
  ∀ s t : State, f s = .next t → t.mem = s.mem ∧ ∀ m, f (s.withMem m) = .next (t.withMem m)

theorem CommutesWithMem.memBlind {g : State → State} (hg : CommutesWithMem g) : MemBlind fun s => .next (g s) := by
  intro s t h
  injection h with ht
  subst ht
  exact ⟨hg.mem_eq s, fun m => congrArg Host.Outcome.next (hg s m)⟩

/-- Whether VS forbids an access to `vxsat` does not depend on memory (rules R552, R554). -/
theorem MemBlind.vxsatAccess {f : State → Result} (hf : MemBlind f) : MemBlind fun s => s.vxsatAccess (f s) := by
  intro s t h
  obtain ⟨hoff, hnext⟩ := vxsatAccess_next h
  obtain ⟨hmem, hother⟩ := hf s t hnext
  exact ⟨hmem, fun m => (vxsatAccess_on (s.withMem m) _ hoff).trans (hother m)⟩

theorem CommutesWithMem.clipped {g : State → State} (hg : CommutesWithMem g) {clip : State → Bool}
    (hclip : IgnoresMemVs clip) : MemBlind fun s => s.clipped (g s) (clip s) :=
  (advance_commutesWithMem.comp (hg.noteClip hclip)).memBlind.vxsatAccess

theorem IgnoresMemVs.writeBits {v : State → XWord} (hv : IgnoresMemVs v) (rd : Reg) :
    MemBlind fun s => s.writeBits rd (v s) :=
  (advance_commutesWithMem.comp (hv.setX rd)).memBlind

theorem IgnoresMemVs.jump {target : State → XWord} (ht : IgnoresMemVs target) :
    MemBlind fun s => s.jump (target s) := by
  intro s t h
  obtain ⟨haligned, rfl⟩ := jump_next h
  refine ⟨rfl, fun m => ?_⟩
  show (s.withMem m).jump (target (s.withMem m)) = _
  rw [ht.mem, State.jump, if_pos haligned]
  rfl

/-- A choice between two operations by registers (rule R83). -/
theorem MemBlind.ite_x {f g : State → Result} (hf : MemBlind f) (hg : MemBlind g) (rs1 rs2 : Reg) :
    MemBlind fun s => if s.x rs1 = s.x rs2 then f s else g s := by
  intro s t h
  by_cases heq : s.x rs1 = s.x rs2
  · obtain ⟨hmem, hother⟩ := hf s t ((if_pos heq).symm.trans h)
    exact ⟨hmem, fun m => (if_pos heq).trans (hother m)⟩
  · obtain ⟨hmem, hother⟩ := hg s t ((if_neg heq).symm.trans h)
    exact ⟨hmem, fun m => (if_neg heq).trans (hother m)⟩

/-- Memory takes no part in any operation but a load and a store (rule R40). -/
theorem ExecForm.memBlind {row : Row} {f : State → Result} (hform : ExecForm row f)
    (hrow : row ∉ [.lw, .sw, .ld, .sd]) : MemBlind f := by
  cases hform with
  | writesX _ rd v hv => exact hv.writeBits rd
  | writes64 _ rd v hv => exact (advance_commutesWithMem.comp (hv.setX64 rd)).memBlind
  | clipsX _ rd v clip hv hclip => exact (hv.setX rd).clipped hclip
  | clips64 _ rd v clip hv hclip => exact (hv.setX64 rd).clipped hclip
  | loads h | stores h =>
    simp only [List.mem_cons, List.not_mem_nil, or_false] at h hrow
    tauto
  | branches _ rs1 rs2 target htarget => exact advance_commutesWithMem.memBlind.ite_x htarget.jump rs1 rs2
  | stops => exact fun s t h => by cases h
  | readsOv _ rd => exact (IgnoresMemVs.writeBits (v := State.vxsat) (fun _ _ _ _ => rfl) rd).vxsatAccess
  | writesOv _ rd ov hov =>
    have hreg : CommutesWithMem fun s => s.setX rd s.vxsat :=
      IgnoresMemVs.setX (v := State.vxsat) (fun _ _ _ _ => rfl) rd
    exact (advance_commutesWithMem.comp (hreg.setOv hov)).memBlind.vxsatAccess

/-- Settles O18: the operation of such an instruction is neither a load nor a store, and its operands do not read
memory. -/
theorem onlyStoresTouchMemory : Obligations.OnlyStoresTouchMemory := by
  unfold Obligations.OnlyStoresTouchMemory
  intro i s t hrow hexec
  exact (exec_form i).memBlind hrow s t hexec

end Sys2Proof.Machine
end

section
/-!
The operand fields and the encoder (rules R61 to R69): each format writes its operands where `instrOf` reads them, and
a word with the fixed bits of a row is the encoding of the operands it holds.
-/

namespace Sys2Proof

open Laws

/-! Parts of a bit vector. -/

theorem extract_low {n m : Nat} (a : BitVec n) (b : BitVec m) : (a ++ b).extractLsb' 0 m = b := by
  rw [extract_below a b 0 m (by omega), BitVec.extractLsb'_eq_self]

/-- A bit vector in two parts is given by the parts. -/
theorem append_eq_iff {n m : Nat} {a : BitVec n} {b : BitVec m} {v : BitVec (n + m)} :
    a ++ b = v ↔ a = v.extractLsb' m n ∧ b = v.extractLsb' 0 m := by
  constructor
  · rintro rfl
    exact ⟨(extract_high a b).symm, (extract_low a b).symm⟩
  · rintro ⟨rfl, rfl⟩
    exact append_extract v

theorem append_inj {n m : Nat} {a a' : BitVec n} {b b' : BitVec m} : a ++ b = a' ++ b' ↔ a = a' ∧ b = b' := by
  rw [append_eq_iff, extract_high, extract_low]

/-- Two words are the same when their six fields are (rule R61). -/
theorem encR_inj {f7 f7' : BitVec 7} {rs2 rs2' rs1 rs1' rd rd' : Reg} {f3 f3' : BitVec 3} {opc opc' : BitVec 7} :
    encR f7 rs2 rs1 f3 rd opc = encR f7' rs2' rs1' f3' rd' opc' ↔
      f7 = f7' ∧ rs2 = rs2' ∧ rs1 = rs1' ∧ f3 = f3' ∧ rd = rd' ∧ opc = opc' := by
  constructor
  · intro h
    exact ⟨by simpa using congrArg funct7Of h, by simpa using congrArg rs2Of h, by simpa using congrArg rs1Of h,
      by simpa using congrArg funct3Of h, by simpa using congrArg rdOf h, by simpa using congrArg opcodeOf h⟩
  · rintro ⟨rfl, rfl, rfl, rfl, rfl, rfl⟩
    rfl

/-- Two neighbouring parts are one part. -/
theorem append_parts {w : Nat} (v : BitVec w) (lo n m : Nat) :
    v.extractLsb' (lo + m) n ++ v.extractLsb' lo m = v.extractLsb' lo (n + m) :=
  BitVec.extractLsb'_append_extractLsb'_eq_extractLsb' rfl

/-- The immediate of format U from its four parts (rule R63). -/
theorem append_immU (imm : BitVec 20) :
    imm.extractLsb' 13 7 ++ imm.extractLsb' 8 5 ++ imm.extractLsb' 3 5 ++ imm.extractLsb' 0 3 = imm := by
  rw [append_parts imm 8 7 5, append_parts imm 3 12 5, append_parts imm 0 17 3, BitVec.extractLsb'_eq_self]

/-- An even branch offset from its scattered bits (rule R63). -/
theorem append_offset {offset : BitVec 13} (h : evenOffset offset = true) :
    offset.extractLsb' 12 1 ++ offset.extractLsb' 11 1 ++ offset.extractLsb' 5 6 ++ offset.extractLsb' 1 4 ++ 0#1 =
      offset := by
  have hlast : 0#1 = offset.extractLsb' 0 1 := by
    apply BitVec.eq_of_getLsbD_eq
    intro k hk
    obtain rfl : k = 0 := by omega
    simpa [evenOffset] using h
  rw [append_parts offset 11 1 1, append_parts offset 5 2 6, append_parts offset 1 8 4, hlast,
    append_parts offset 0 12 1, BitVec.extractLsb'_eq_self]

/-! Each format's operands read back. -/

section ReadBack

variable (f7 : BitVec 7) (rs3 rs2 rs1 : Reg) (f3 : BitVec 3) (rd : Reg) (opc : BitVec 7)

@[simp] theorem immIOf_encI (imm : BitVec 12) : immIOf (encI imm rs1 f3 rd opc) = imm := by
  rw [immIOf_eq, encI, funct7Of_encR, rs2Of_encR]
  exact append_extract (n := 7) (m := 5) imm

@[simp] theorem immSOf_encS (imm : BitVec 12) : immSOf (encS imm rs2 rs1 f3 opc) = imm := by
  rw [immSOf_eq, encS, funct7Of_encR, rdOf_encR]
  exact append_extract (n := 7) (m := 5) imm

@[simp] theorem immUOf_encU (imm : BitVec 20) : immUOf (encU imm rd opc) = imm := by
  rw [immUOf_eq, encU, funct7Of_encR, rs2Of_encR, rs1Of_encR, funct3Of_encR]
  exact append_immU imm

theorem offsetOf_encB {offset : BitVec 13} (h : evenOffset offset = true) :
    offsetOf (encB offset rs2 rs1 f3 opc) = offset := by
  rw [offsetOf_eq, encB, funct7Of_encR, rdOf_encR, extract_low, extract_low, extract_high (n := 4) (m := 1),
    extract_high (n := 1) (m := 6)]
  exact append_offset h

@[simp] theorem rs3Of_encR4 (f2 : BitVec 2) : rs3Of (encR4 rs3 f2 rs2 rs1 f3 rd opc) = rs3 := by
  rw [rs3Of_eq, encR4, funct7Of_encR, extract_high]

@[simp] theorem rs3Of_encFsri (imm : BitVec 6) : rs3Of (encFsri rs3 imm rs1 rd) = rs3 := by
  rw [rs3Of_eq, encFsri, funct7Of_encR]
  exact (extract_above (rs3 ++ 1#1) _ 1 5).trans (extract_high rs3 1#1)

@[simp] theorem imm6Of_encR (f6 : BitVec 6) (imm : BitVec 6) :
    imm6Of (encR (f6 ++ imm.extractLsb' 5 1) (imm.extractLsb' 0 5) rs1 f3 rd opc) = imm := by
  rw [imm6Of_eq, funct7Of_encR, rs2Of_encR, extract_low]
  exact append_extract (n := 1) (m := 5) imm

@[simp] theorem imm6Of_encFsri (imm : BitVec 6) : imm6Of (encFsri rs3 imm rs1 rd) = imm := imm6Of_encR _ _ _ _ _ _

@[simp] theorem imm4Of_encR (c : BitVec 1) (imm : BitVec 4) : imm4Of (encR f7 (c ++ imm) rs1 f3 rd opc) = imm := by
  rw [imm4Of_eq, rs2Of_encR, extract_low]

@[simp] theorem imm3Of_encR (c : BitVec 2) (imm : BitVec 3) : imm3Of (encR f7 (c ++ imm) rs1 f3 rd opc) = imm := by
  rw [imm3Of_eq, rs2Of_encR, extract_low]

@[simp] theorem imm2Of_encR (c : BitVec 3) (imm : BitVec 2) : imm2Of (encR f7 (c ++ imm) rs1 f3 rd opc) = imm := by
  rw [imm2Of_eq, rs2Of_encR, extract_low]

end ReadBack

/-- The operands of an encoded instruction read back, an even branch offset among them. -/
theorem instrOf_encode {i : Instr} (h : offsetOk i = true) : instrOf i.row (encode i) = i := by
  cases i with
  | clrov => rfl
  | lw | ld | addi =>
    dsimp only [Instr.row, instrOf, encode]
    rw [immIOf_encI, encI, rdOf_encR, rs1Of_encR]
  | sw | sd =>
    dsimp only [Instr.row, instrOf, encode]
    rw [immSOf_encS, encS, rs1Of_encR, rs2Of_encR]
  | lui =>
    dsimp only [Instr.row, instrOf, encode]
    rw [immUOf_encU, encU, rdOf_encR]
  | bne rs1 rs2 offset =>
    dsimp only [Instr.row, instrOf, encode]
    rw [offsetOf_encB _ _ _ _ h, encB, rs1Of_encR, rs2Of_encR]
  | cmix | fsr | fsrw | bpick =>
    dsimp only [Instr.row, instrOf, encode]
    rw [rs3Of_encR4, encR4, rdOf_encR, rs1Of_encR, rs2Of_encR]
  | fsri =>
    dsimp only [Instr.row, instrOf, encode]
    rw [rs3Of_encFsri, imm6Of_encFsri, encFsri, rdOf_encR, rs1Of_encR]
  | _ =>
    dsimp only [Instr.row, instrOf, encode, encCsr]
    simp only [rdOf_encR, rs1Of_encR, rs2Of_encR, imm6Of_encR, imm5Of_eq, imm4Of_encR, imm3Of_encR, imm2Of_encR]

end Sys2Proof
end

section
/-!
The fixed bits of the rows (`tableBits`, the `mask` and `match` of opcode_table.json): which fields each mask keeps,
and that a word with the fixed bits of a row is the encoding of the operands it holds.
-/

namespace Sys2Proof

open Laws

/-- The word has the bits that the row fixes (rule R60). -/
def HasRowBits (row : Row) (w : Word) : Prop := w &&& (tableBits row).1 = (tableBits row).2

/-! Masks that cut a field in two keep its upper or its lower part. -/

section Masks

variable (f7 : BitVec 7) (rs2 rs1 : Reg) (f3 : BitVec 3) (rd : Reg) (opc : BitVec 7)

theorem mask_rs3 :
    encR f7 rs2 rs1 f3 rd opc &&& 0x0600707f#32 = encR (0#5 ++ f7.extractLsb' 0 2) 0#5 0#5 f3 0#5 opc := by
  rw [← fixed_rs3 (f7.extractLsb' 2 5) _ rs2 rs1 f3 rd opc, append_extract (n := 5) (m := 2) f7]

theorem mask_fsri :
    encR f7 rs2 rs1 f3 rd opc &&& 0x0400707f#32 = encR (0#5 ++ f7.extractLsb' 1 1 ++ 0#1) 0#5 0#5 f3 0#5 opc := by
  rw [← fixed_fsri (f7.extractLsb' 2 5) _ (f7.extractLsb' 0 1) rs2 rs1 f3 rd opc, append_parts f7 1 5 1,
    append_parts f7 0 6 1, BitVec.extractLsb'_eq_self]

theorem mask_imm6 :
    encR f7 rs2 rs1 f3 rd opc &&& 0xfc00707f#32 = encR (f7.extractLsb' 1 6 ++ 0#1) 0#5 0#5 f3 0#5 opc := by
  rw [← fixed_imm6 _ (f7.extractLsb' 0 1) rs2 rs1 f3 rd opc, append_extract (n := 6) (m := 1) f7]

theorem mask_imm4 :
    encR f7 rs2 rs1 f3 rd opc &&& 0xff00707f#32 = encR f7 (rs2.extractLsb' 4 1 ++ 0#4) 0#5 f3 0#5 opc := by
  rw [← fixed_imm4 f7 _ (rs2.extractLsb' 0 4) rs1 f3 rd opc, append_extract (n := 1) (m := 4) rs2]

theorem mask_imm3 :
    encR f7 rs2 rs1 f3 rd opc &&& 0xff80707f#32 = encR f7 (rs2.extractLsb' 3 2 ++ 0#3) 0#5 f3 0#5 opc := by
  rw [← fixed_imm3 f7 _ (rs2.extractLsb' 0 3) rs1 f3 rd opc, append_extract (n := 2) (m := 3) rs2]

theorem mask_imm2 :
    encR f7 rs2 rs1 f3 rd opc &&& 0xffc0707f#32 = encR f7 (rs2.extractLsb' 2 3 ++ 0#2) 0#5 f3 0#5 opc := by
  rw [← fixed_imm2 f7 _ (rs2.extractLsb' 0 2) rs1 f3 rd opc, append_extract (n := 3) (m := 2) rs2]

end Masks

/-! A word that agrees with an encoding under the mask of its row is that encoding of its own operands. -/

section Rebuild

variable {w : Word} {f7 : BitVec 7} {rs2 rs1 rd : Reg} {f3 : BitVec 3} {opc : BitVec 7}

theorem encR_of_opcode (h : w &&& 0x0000707f#32 = encR 0#7 0#5 0#5 f3 0#5 opc) :
    encR (funct7Of w) (rs2Of w) (rs1Of w) f3 (rdOf w) opc = w := by
  rw [← encR_fields w, fixed_opcode, encR_inj] at h
  obtain ⟨-, -, -, rfl, -, rfl⟩ := h
  exact encR_fields w

theorem encR_of_upper (h : w &&& 0x0000007f#32 = encR 0#7 0#5 0#5 0#3 0#5 opc) :
    encR (funct7Of w) (rs2Of w) (rs1Of w) (funct3Of w) (rdOf w) opc = w := by
  rw [← encR_fields w, fixed_upper, encR_inj] at h
  obtain ⟨-, -, -, -, -, rfl⟩ := h
  exact encR_fields w

theorem encR_of_funct (h : w &&& 0xfe00707f#32 = encR f7 0#5 0#5 f3 0#5 opc) :
    encR f7 (rs2Of w) (rs1Of w) f3 (rdOf w) opc = w := by
  rw [← encR_fields w, fixed_funct, encR_inj] at h
  obtain ⟨rfl, -, -, rfl, -, rfl⟩ := h
  exact encR_fields w

theorem encR_of_oneop (h : w &&& 0xfff0707f#32 = encR f7 rs2 0#5 f3 0#5 opc) :
    encR f7 rs2 (rs1Of w) f3 (rdOf w) opc = w := by
  rw [← encR_fields w, fixed_oneop, encR_inj] at h
  obtain ⟨rfl, rfl, -, rfl, -, rfl⟩ := h
  exact encR_fields w

theorem encR_of_source (h : w &&& 0xfffff07f#32 = encR f7 rs2 rs1 f3 0#5 opc) :
    encR f7 rs2 rs1 f3 (rdOf w) opc = w := by
  rw [← encR_fields w, fixed_source, encR_inj] at h
  obtain ⟨rfl, rfl, rfl, rfl, -, rfl⟩ := h
  exact encR_fields w

theorem encR4_of_rs3 {f2 : BitVec 2} (h : w &&& 0x0600707f#32 = encR (0#5 ++ f2) 0#5 0#5 f3 0#5 opc) :
    encR4 (rs3Of w) f2 (rs2Of w) (rs1Of w) f3 (rdOf w) opc = w := by
  rw [← encR_fields w, mask_rs3, encR_inj, append_inj] at h
  obtain ⟨⟨-, rfl⟩, -, -, rfl, -, rfl⟩ := h
  rw [encR4, rs3Of_eq, append_extract (n := 5) (m := 2), encR_fields]

theorem encFsri_of_bits (h : w &&& 0x0400707f#32 = encR (0#5 ++ 1#1 ++ 0#1) 0#5 0#5 0b101#3 0#5 opImm) :
    encFsri (rs3Of w) (imm6Of w) (rs1Of w) (rdOf w) = w := by
  rw [← encR_fields w, mask_fsri, encR_inj, append_inj, append_inj] at h
  obtain ⟨⟨⟨-, hbit⟩, -⟩, -, -, hf3, -, hopc⟩ := h
  rw [encFsri, rs3Of_eq, imm6Of_eq, extract_high, extract_low, ← hbit, append_parts _ 1 5 1, append_parts _ 0 6 1,
    BitVec.extractLsb'_eq_self, ← hf3, ← hopc, encR_fields]

theorem encR_of_imm6 {f6 : BitVec 6} (h : w &&& 0xfc00707f#32 = encR (f6 ++ 0#1) 0#5 0#5 f3 0#5 opc) :
    encR (f6 ++ (imm6Of w).extractLsb' 5 1) ((imm6Of w).extractLsb' 0 5) (rs1Of w) f3 (rdOf w) opc = w := by
  rw [← encR_fields w, mask_imm6, encR_inj, append_inj] at h
  obtain ⟨⟨rfl, -⟩, -, -, rfl, -, rfl⟩ := h
  rw [imm6Of_eq, extract_high, extract_low, append_extract (n := 6) (m := 1), encR_fields]

theorem encR_of_imm4 {c : BitVec 1} (h : w &&& 0xff00707f#32 = encR f7 (c ++ 0#4) 0#5 f3 0#5 opc) :
    encR f7 (c ++ imm4Of w) (rs1Of w) f3 (rdOf w) opc = w := by
  rw [← encR_fields w, mask_imm4, encR_inj, append_inj] at h
  obtain ⟨rfl, ⟨rfl, -⟩, -, rfl, -, rfl⟩ := h
  rw [imm4Of_eq, append_extract (n := 1) (m := 4), encR_fields]

theorem encR_of_imm3 {c : BitVec 2} (h : w &&& 0xff80707f#32 = encR f7 (c ++ 0#3) 0#5 f3 0#5 opc) :
    encR f7 (c ++ imm3Of w) (rs1Of w) f3 (rdOf w) opc = w := by
  rw [← encR_fields w, mask_imm3, encR_inj, append_inj] at h
  obtain ⟨rfl, ⟨rfl, -⟩, -, rfl, -, rfl⟩ := h
  rw [imm3Of_eq, append_extract (n := 2) (m := 3), encR_fields]

theorem encR_of_imm2 {c : BitVec 3} (h : w &&& 0xffc0707f#32 = encR f7 (c ++ 0#2) 0#5 f3 0#5 opc) :
    encR f7 (c ++ imm2Of w) (rs1Of w) f3 (rdOf w) opc = w := by
  rw [← encR_fields w, mask_imm2, encR_inj, append_inj] at h
  obtain ⟨rfl, ⟨rfl, -⟩, -, rfl, -, rfl⟩ := h
  rw [imm2Of_eq, append_extract (n := 3) (m := 2), encR_fields]

/-! The formats with scattered immediates put their parts back where the word has them. -/

theorem encI_immIOf (w : Word) (rs1 : Reg) (f3 : BitVec 3) (rd : Reg) (opc : BitVec 7) :
    encI (immIOf w) rs1 f3 rd opc = encR (funct7Of w) (rs2Of w) rs1 f3 rd opc := by
  rw [encI, immIOf_eq, extract_high, extract_low]

theorem encS_immSOf (w : Word) (rs2 rs1 : Reg) (f3 : BitVec 3) (opc : BitVec 7) :
    encS (immSOf w) rs2 rs1 f3 opc = encR (funct7Of w) rs2 rs1 f3 (rdOf w) opc := by
  rw [encS, immSOf_eq, extract_high, extract_low]

theorem encU_immUOf (w : Word) (rd : Reg) (opc : BitVec 7) :
    encU (immUOf w) rd opc = encR (funct7Of w) (rs2Of w) (rs1Of w) (funct3Of w) rd opc := by
  rw [encU, immUOf_eq, extract_low, extract_above _ (funct3Of w) 0 5, extract_low, extract_above _ (funct3Of w) 5 5,
    extract_above _ (rs1Of w) 0 5, extract_low, extract_above _ (funct3Of w) 10 7, extract_above _ (rs1Of w) 5 7,
    extract_high]

/-- Format B scatters the parts of the offset over two fields (rule R63). -/
theorem encB_parts (a b : BitVec 1) (c : BitVec 6) (d : BitVec 4) (rs2 rs1 : Reg) (f3 : BitVec 3) (opc : BitVec 7) :
    encB (a ++ b ++ c ++ d ++ 0#1) rs2 rs1 f3 opc = encR (a ++ c) rs2 rs1 f3 (d ++ b) opc := by
  have ha : (a ++ b ++ c ++ d ++ 0#1).extractLsb' (1 + (4 + (6 + 1))) 1 = a := by
    rw [extract_above, extract_above, extract_above, extract_high]
  have hb : (a ++ b ++ c ++ d ++ 0#1).extractLsb' (1 + (4 + (6 + 0))) 1 = b := by
    rw [extract_above, extract_above, extract_above, extract_low]
  have hc : (a ++ b ++ c ++ d ++ 0#1).extractLsb' (1 + (4 + 0)) 6 = c := by
    rw [extract_above, extract_above, extract_low]
  have hd : (a ++ b ++ c ++ d ++ 0#1).extractLsb' (1 + 0) 4 = d := by rw [extract_above, extract_low]
  exact congrArg₂ (fun f7 rd => encR f7 rs2 rs1 f3 rd opc) (congrArg₂ (· ++ ·) ha hc) (congrArg₂ (· ++ ·) hd hb)

theorem encB_offsetOf (w : Word) (rs2 rs1 : Reg) (f3 : BitVec 3) (opc : BitVec 7) :
    encB (offsetOf w) rs2 rs1 f3 opc = encR (funct7Of w) rs2 rs1 f3 (rdOf w) opc := by
  rw [offsetOf_eq, encB_parts, append_extract (n := 1) (m := 6), append_extract (n := 4) (m := 1)]

end Rebuild
/-- A word with the fixed bits of a row is the encoding of the row with the operands the word holds; SWAP16 reads
`rs1` alone, so there the two sources have to be equal (rule R244). -/
theorem encode_instrOf {row : Row} {w : Word} (h : HasRowBits row w) (hswap : row = .swap16 → rs1Of w = rs2Of w) :
    encode (instrOf row w) = w := by
  cases row with
  | clrov => exact h.symm.trans (BitVec.and_allOnes (x := w))
  | rdov => exact encR_of_source h
  | lw | ld | addi => exact (encI_immIOf w _ _ _ _).trans (encR_of_opcode h)
  | sw | sd => exact (encS_immSOf w _ _ _ _).trans (encR_of_opcode h)
  | bne => exact (encB_offsetOf w _ _ _ _).trans (encR_of_opcode h)
  | lui => exact (encU_immUOf w _ _).trans (encR_of_upper h)
  | cmix | fsr | fsrw | bpick => exact encR4_of_rs3 h
  | fsri => exact encFsri_of_bits h
  | bitreviRv64 | sraiURv64 => exact encR_of_imm6 h
  | srai16 | srai16U | srli16 | srli16U | slli16 | kslli16 | sclip16 | uclip16 => exact encR_of_imm4 h
  | srai8 | srai8U | srli8 | srli8U | slli8 | kslli8 | sclip8 | uclip8 | insbRv64 => exact encR_of_imm3 h
  | insbRv32 => exact encR_of_imm2 h
  | csrrw | csrrs | csrrc | csrrwi | csrrsi | csrrci | clz | revRv32 | revRv64 | rev8H | kabs16 | clrs16 | clz16 | kabs8
  | clrs8 | clz8 | swap8 | sunpkd810 | sunpkd820 | sunpkd830 | sunpkd831 | sunpkd832 | zunpkd810 | zunpkd820 | zunpkd830
  | zunpkd831 | zunpkd832 | clrs32 | clz32 | kabsw | kabs32 => exact encR_of_oneop h
  | swap16 =>
    have hfields := encR_of_funct (w := w) (f7 := 0b0001111#7) (f3 := 0b001#3) (opc := opP) h
    rwa [← hswap rfl] at hfields
  | _ => exact encR_of_funct h

end Sys2Proof
end

section
/-!
From a word to its row (rules R62, R65 to R68, R70 to R78): a word that the decoder reads as a row has the bits the
row fixes and is the row's own, so that the operands it holds encode to it.
-/

namespace Sys2Proof

open Laws

/-! The rows that read some of the words with their bits, or none. -/

theorem ownWord_csrrs {rd rs1 : Reg} : ownWord (.csrrs rd rs1) = true ↔ rs1 ≠ 0#5 := bne_iff_ne

theorem ownWord_pkbt16 {rd rs1 rs2 : Reg} : ownWord (.pkbt16 rd rs1 rs2) = true ↔ rs1 ≠ rs2 := bne_iff_ne

theorem ownWord_csrrci {rd uimm : Reg} : ownWord (.csrrci rd uimm) = true ↔ ¬(uimm = 1#5 ∧ rd = 0#5) := by
  show (rd != 0#5 || uimm != 1#5) = true ↔ _
  rw [Bool.or_eq_true, bne_iff_ne, bne_iff_ne, ← not_and_or, and_comm]

/-- The rows that are not read from every word with their fixed bits: the names that share words with another row
(rules R27, R28, R79), and SWAP16 and PKBT16, which the source fields tell apart (rule R244). -/
def sharedRows : List Row := [.csrrs, .csrrci, .swap16, .pkbt16, .smbb32, .kmada32, .pkbb32, .pktt32]

/-- The word is one that the row, and no other row, is read from: it has the bits the row fixes, the row is not a
second name for it, and SWAP16's two source fields are equal (rule R244). -/
structure IsRowWord (row : Row) (w : Word) : Prop where
  bits : HasRowBits row w
  own : ownWord (instrOf row w) = true
  swap : row = .swap16 → rs1Of w = rs2Of w

theorem ownWord_instrOf {row : Row} (h : row ∉ sharedRows) (w : Word) : ownWord (instrOf row w) = true := by
  cases row with
  | csrrs | csrrci | swap16 | pkbt16 | smbb32 | kmada32 | pkbb32 | pktt32 => exact absurd (by decide) h
  | _ => rfl

theorem HasRowBits.isRowWord {row : Row} {w : Word} (h : HasRowBits row w) (hrow : row ∉ sharedRows) :
    IsRowWord row w where
  bits := h
  own := ownWord_instrOf hrow w
  swap := fun e => absurd (e ▸ hrow) (by decide)

theorem mem_of_lookupRow {n : Nat} {key : BitVec n} {table : List (BitVec n × Row)} {row : Row}
    (h : lookupRow key table = some row) : (key, row) ∈ table := by
  induction table with
  | nil => cases h
  | cons entry rest ih =>
    obtain ⟨k, r⟩ := entry
    rw [lookupRow] at h
    split at h
    next hkey =>
      injection h with hrow
      rw [hkey, hrow]
      exact List.mem_cons_self
    next => exact List.mem_cons_of_mem _ (ih h)

/-- The table lists rows that share no word, with the bits `bits` of the key fixed under one mask. -/
abbrev TableFixes {n : Nat} (table : List (BitVec n × Row)) (mask : Word) (bits : BitVec n → Word) : Prop :=
  ∀ e ∈ table, tableBits e.2 = (mask, bits e.1) ∧ e.2 ∉ sharedRows

theorem TableFixes.isRowWord {n : Nat} {table : List (BitVec n × Row)} {mask : Word} {bits : BitVec n → Word}
    (htable : TableFixes table mask bits) {key : BitVec n} {row : Row} {w : Word}
    (h : lookupRow key table = some row) (hw : w &&& mask = bits key) : IsRowWord row w := by
  obtain ⟨hbits, hrow⟩ := htable _ (mem_of_lookupRow h)
  refine HasRowBits.isRowWord ?_ hrow
  rw [HasRowBits, hbits]
  exact hw

theorem TableFixes.append {n : Nat} {table rest : List (BitVec n × Row)} {mask : Word} {bits : BitVec n → Word}
    (htable : TableFixes table mask bits) (hrest : TableFixes rest mask bits) :
    TableFixes (table ++ rest) mask bits :=
  List.forall_mem_append.mpr ⟨htable, hrest⟩

/-- The bits that funct7 and funct3 fix under a major opcode. -/
def functBits (f3 : BitVec 3) (opc : BitVec 7) (f7 : BitVec 7) : Word := encR f7 0#5 0#5 f3 0#5 opc

/-- The bits that a field over funct7 and rs2 fixes, with funct3 and the major opcode. -/
def funct12Bits (f3 : BitVec 3) (opc : BitVec 7) (key : BitVec 12) : Word :=
  encR (key.extractLsb' 5 7) (key.extractLsb' 0 5) 0#5 f3 0#5 opc

theorem opPTable0_fixes : TableFixes opPTable0 0xfe00707f#32 (functBits 0b000#3 opP) := by decide
theorem opPTable1_fixes : TableFixes opPTable1 0xfe00707f#32 (functBits 0b001#3 opP) :=
  .append (.append (.append (by decide) (by decide)) (by decide)) (by decide)
theorem opPTable2_fixes : TableFixes opPTable2 0xfe00707f#32 (functBits 0b010#3 opP) := by decide
theorem shift5Table0_fixes : TableFixes shift5Table0 0xfe00707f#32 (functBits 0b000#3 opP) := by decide
theorem shift5Table1_fixes : TableFixes shift5Table1 0xfe00707f#32 (functBits 0b001#3 opP) := by decide
theorem shift5Table2_fixes : TableFixes shift5Table2 0xfe00707f#32 (functBits 0b010#3 opP) := by decide
theorem oneopTable_fixes :
    TableFixes oneopTable 0xfff0707f#32 fun rs2 => encR 0b1010110#7 rs2 0#5 0b000#3 0#5 opP := by decide
theorem oneop2Table_fixes :
    TableFixes oneop2Table 0xfff0707f#32 fun rs2 => encR 0b1010111#7 rs2 0#5 0b000#3 0#5 opP := by decide
theorem shift4Table_fixes : TableFixes shift4Table 0xff00707f#32 fun key =>
    encR (key.extractLsb' 1 7) (key.extractLsb' 0 1 ++ 0#4) 0#5 0b000#3 0#5 opP := by decide
theorem shift3Table_fixes : TableFixes shift3Table 0xff80707f#32 fun key =>
    encR (key.extractLsb' 2 7) (key.extractLsb' 0 2 ++ 0#3) 0#5 0b000#3 0#5 opP := by decide

/-! What each group of the decoder reads a word as, by the fields that select the group. -/

section Rows

variable {x : Xlen} {f7 : BitVec 7} {rs2 rs1 : Reg} {f3 : BitVec 3} {rd : Reg} {row : Row}

theorem row_of_ite_some {p : Prop} [Decidable p] {r : Row} (h : (if p then some r else none) = some row) :
    p ∧ r = row := by simpa using h

theorem isRowWord_of_imm6 {f6 : BitVec 6} (hkey : f7.extractLsb' 1 6 = f6) (hrow : row ∉ sharedRows)
    {opc : BitVec 7} (hbits : tableBits row = (0xfc00707f#32, encR (f6 ++ 0#1) 0#5 0#5 f3 0#5 opc)) :
    IsRowWord row (encR f7 rs2 rs1 f3 rd opc) := by
  refine HasRowBits.isRowWord ?_ hrow
  rw [HasRowBits, hbits, mask_imm6, hkey]

theorem isRowWord_of_bitrevi (h : decodeBitrevi x f7 = some row) :
    IsRowWord row (encR f7 rs2 rs1 0b000#3 rd opP) := by
  cases x with
  | rv32 =>
    obtain ⟨rfl, rfl⟩ := row_of_ite_some h
    exact HasRowBits.isRowWord (fixed_funct _ _ _ _ _ _) (by decide)
  | rv64 =>
    obtain ⟨hkey, rfl⟩ := row_of_ite_some h
    exact isRowWord_of_imm6 hkey (by decide) rfl

theorem isRowWord_of_sraiU (h : decodeSraiU x f7 = some row) :
    IsRowWord row (encR f7 rs2 rs1 0b001#3 rd opP) := by
  cases x with
  | rv32 =>
    obtain ⟨rfl, rfl⟩ := row_of_ite_some h
    exact HasRowBits.isRowWord (fixed_funct _ _ _ _ _ _) (by decide)
  | rv64 =>
    obtain ⟨hkey, rfl⟩ := row_of_ite_some h
    exact isRowWord_of_imm6 hkey (by decide) rfl

theorem isRowWord_of_insb (h : decodeInsb x rs2 = some row) :
    IsRowWord row (encR 0b1010110#7 rs2 rs1 0b000#3 rd opP) := by
  cases x with
  | rv32 =>
    obtain ⟨hkey, rfl⟩ := row_of_ite_some h
    exact HasRowBits.isRowWord ((mask_imm2 _ _ _ _ _ _).trans (by rw [hkey]; rfl)) (by decide)
  | rv64 =>
    obtain ⟨hkey, rfl⟩ := row_of_ite_some h
    exact HasRowBits.isRowWord ((mask_imm3 _ _ _ _ _ _).trans (by rw [hkey]; rfl)) (by decide)

theorem isRowWord_of_opP0 (h : decodeOpP0 x f7 rs2 = some row) :
    IsRowWord row (encR f7 rs2 rs1 0b000#3 rd opP) := by
  simp only [decodeOpP0, Option.orElse_eq_some] at h
  rcases h with h | ⟨-, h | ⟨-, h | ⟨-, h | ⟨-, h | ⟨-, h⟩⟩⟩⟩⟩
  · exact opPTable0_fixes.isRowWord h (fixed_funct _ _ _ _ _ _)
  · split at h
    next hf7 =>
      subst hf7
      simp only [Option.orElse_eq_some] at h
      rcases h with h | ⟨-, h⟩
      · exact oneopTable_fixes.isRowWord h (fixed_oneop _ _ _ _ _ _)
      · exact isRowWord_of_insb h
    next =>
      split at h
      next hf7 =>
        subst hf7
        exact oneop2Table_fixes.isRowWord h (fixed_oneop _ _ _ _ _ _)
      next => cases h
  · exact shift5Table0_fixes.isRowWord h (fixed_funct _ _ _ _ _ _)
  · refine shift4Table_fixes.isRowWord h ((mask_imm4 _ _ _ _ _ _).trans ?_)
    rw [extract_high, extract_low]
  · refine shift3Table_fixes.isRowWord h ((mask_imm3 _ _ _ _ _ _).trans ?_)
    rw [extract_high, extract_low]
  · exact isRowWord_of_bitrevi h

theorem isRowWord_of_opP1 (h : decodeOpP1 x f7 rs2 rs1 = some row) :
    IsRowWord row (encR f7 rs2 rs1 0b001#3 rd opP) := by
  unfold decodeOpP1 at h
  split at h
  next hf7 =>
    subst hf7
    injection h with h
    split at h
    next hsame =>
      subst h
      exact ⟨fixed_funct _ _ _ _ _ _, rfl, fun _ => by rw [rs1Of_encR, rs2Of_encR, hsame]⟩
    next hdiffer =>
      subst h
      refine ⟨fixed_funct _ _ _ _ _ _, ownWord_pkbt16.mpr ?_, fun e => by cases e⟩
      rwa [rs1Of_encR, rs2Of_encR]
  next =>
    simp only [Option.orElse_eq_some] at h
    rcases h with h | ⟨-, h | ⟨-, h⟩⟩
    · exact opPTable1_fixes.isRowWord h (fixed_funct _ _ _ _ _ _)
    · exact shift5Table1_fixes.isRowWord h (fixed_funct _ _ _ _ _ _)
    · exact isRowWord_of_sraiU h

theorem isRowWord_of_opP2 (h : decodeOpP2 f7 = some row) : IsRowWord row (encR f7 rs2 rs1 0b010#3 rd opP) := by
  simp only [decodeOpP2, Option.orElse_eq_some] at h
  rcases h with h | ⟨-, h⟩
  · exact opPTable2_fixes.isRowWord h (fixed_funct _ _ _ _ _ _)
  · exact shift5Table2_fixes.isRowWord h (fixed_funct _ _ _ _ _ _)

/-- The rows with a third source register are told by the two low bits of funct7 (rule R66). -/
theorem isRowWord_of_rs3 {f2 : BitVec 2} (hkey : f7.extractLsb' 0 2 = f2) (hrow : row ∉ sharedRows)
    {opc : BitVec 7} (hbits : tableBits row = (0x0600707f#32, encR (0#5 ++ f2) 0#5 0#5 f3 0#5 opc)) :
    IsRowWord row (encR f7 rs2 rs1 f3 rd opc) := by
  refine HasRowBits.isRowWord ?_ hrow
  rw [HasRowBits, hbits, mask_rs3, hkey]

theorem isRowWord_of_opP3 (h : decodeOpP3 f7 = some row) : IsRowWord row (encR f7 rs2 rs1 0b011#3 rd opP) := by
  obtain ⟨hkey, rfl⟩ := row_of_ite_some h
  exact isRowWord_of_rs3 hkey (by decide) rfl

theorem isRowWord_of_op (h : decodeOp f7 f3 = some row) : IsRowWord row (encR f7 rs2 rs1 f3 rd opOp) := by
  have hpack : TableFixes [(0b0000100#7, .pack), (0b0100100#7, .packu), (0b0000101#7, .min)] 0xfe00707f#32
      (functBits 0b100#3 opOp) := by decide
  have hmax : TableFixes [(0b0000101#7, .max)] 0xfe00707f#32 (functBits 0b110#3 opOp) := by decide
  have hmulh : TableFixes [(0b0000001#7, .smmulRv32)] 0xfe00707f#32 (functBits 0b001#3 opOp) := by decide
  unfold decodeOp at h
  split_ifs at h with h4 h6 h1 hmix h5 hshift
  · subst h4
    exact hpack.isRowWord h (fixed_funct _ _ _ _ _ _)
  · subst h6
    exact hmax.isRowWord h (fixed_funct _ _ _ _ _ _)
  · subst h1
    injection h with h
    subst h
    exact isRowWord_of_rs3 hmix (by decide) rfl
  · subst h1
    exact hmulh.isRowWord h (fixed_funct _ _ _ _ _ _)
  · subst h5
    injection h with h
    subst h
    exact isRowWord_of_rs3 hshift (by decide) rfl

theorem isRowWord_of_funct12 {table : List (BitVec 12 × Row)} {opc : BitVec 7}
    (htable : TableFixes table 0xfff0707f#32 (funct12Bits f3 opc)) (h : lookupRow (f7 ++ rs2) table = some row) :
    IsRowWord row (encR f7 rs2 rs1 f3 rd opc) := by
  refine htable.isRowWord h ((fixed_oneop _ _ _ _ _ _).trans ?_)
  rw [funct12Bits, extract_high, extract_low]

theorem isRowWord_of_opImm (h : decodeOpImm f7 rs2 f3 = some row) : IsRowWord row (encR f7 rs2 rs1 f3 rd opImm) := by
  have hclz : TableFixes [(0b011000000000#12, .clz)] 0xfff0707f#32 (funct12Bits 0b001#3 opImm) := by decide
  have hrev : TableFixes [(0b011010011111#12, .revRv32), (0b011010111111#12, .revRv64), (0b011010001000#12, .rev8H)]
      0xfff0707f#32 (funct12Bits 0b101#3 opImm) := by decide
  unfold decodeOpImm at h
  split_ifs at h with h0 h1 h5 hshift
  · subst h0
    injection h with h
    subst h
    exact HasRowBits.isRowWord (fixed_opcode _ _ _ _ _ _) (by decide)
  · subst h1
    exact isRowWord_of_funct12 hclz h
  · subst h5
    injection h with h
    subst h
    exact HasRowBits.isRowWord ((mask_fsri _ _ _ _ _ _).trans (by rw [hshift]; rfl)) (by decide)
  · subst h5
    exact isRowWord_of_funct12 hrev h

theorem isRowWord_of_op32 (h : decodeOp32 f7 f3 = some row) : IsRowWord row (encR f7 rs2 rs1 f3 rd opOp32) := by
  obtain ⟨⟨rfl, hkey⟩, rfl⟩ := row_of_ite_some h
  exact isRowWord_of_rs3 hkey (by decide) rfl

/-- The six CSR instructions on `vxsat`; the words of RDOV are no CSRRS and that of CLROV is no CSRRCI (rules R27,
R28, R68). -/
theorem isRowWord_of_csr (hrdov : ¬(f3 = 0b010#3 ∧ rs1 = 0#5)) (hclrov : ¬(f3 = 0b111#3 ∧ rs1 = 1#5 ∧ rd = 0#5))
    (h : (f3, row) ∈ [(0b001#3, Row.csrrw), (0b010#3, .csrrs), (0b011#3, .csrrc), (0b101#3, .csrrwi),
      (0b110#3, .csrrsi), (0b111#3, .csrrci)]) :
    IsRowWord row (encR 0b0000000#7 0b01001#5 rs1 f3 rd opSystem) := by
  simp only [List.mem_cons, Prod.mk.injEq, List.not_mem_nil, or_false] at h
  rcases h with ⟨rfl, rfl⟩ | ⟨rfl, rfl⟩ | ⟨rfl, rfl⟩ | ⟨rfl, rfl⟩ | ⟨rfl, rfl⟩ | ⟨rfl, rfl⟩
  case inr.inl =>
    refine ⟨fixed_oneop _ _ _ _ _ _, ownWord_csrrs.mpr ?_, fun e => by cases e⟩
    rw [rs1Of_encR]
    exact fun hsrc => hrdov ⟨rfl, hsrc⟩
  case inr.inr.inr.inr.inr =>
    refine ⟨fixed_oneop _ _ _ _ _ _, ownWord_csrrci.mpr ?_, fun e => by cases e⟩
    rw [rdOf_encR, rs1Of_encR]
    exact fun hboth => hclrov ⟨rfl, hboth⟩
  all_goals exact HasRowBits.isRowWord (fixed_oneop _ _ _ _ _ _) (by decide)

theorem isRowWord_of_system (h : decodeSystem f7 rs2 rs1 f3 rd = some row) :
    IsRowWord row (encR f7 rs2 rs1 f3 rd opSystem) := by
  unfold decodeSystem at h
  split_ifs at h with hcsr hrdov hclrov <;> obtain ⟨rfl, rfl⟩ := append_eq_iff.mp hcsr
  · obtain ⟨rfl, rfl⟩ := hrdov
    injection h with h
    subst h
    exact HasRowBits.isRowWord (fixed_source _ _ _ _ _ _) (by decide)
  · obtain ⟨rfl, rfl, rfl⟩ := hclrov
    injection h with h
    subst h
    exact HasRowBits.isRowWord (BitVec.and_allOnes (x := encR _ _ _ _ _ _)) (by decide)
  · exact isRowWord_of_csr hrdov hclrov (mem_of_lookupRow h)

/-- The rows of a major opcode that funct3 alone tells apart. -/
theorem isRowWord_of_funct3 {table : List (BitVec 3 × Row)} {opc : BitVec 7}
    (htable : TableFixes table 0x0000707f#32 fun f3 => encR 0#7 0#5 0#5 f3 0#5 opc)
    (h : lookupRow f3 table = some row) : IsRowWord row (encR f7 rs2 rs1 f3 rd opc) :=
  htable.isRowWord h (fixed_opcode _ _ _ _ _ _)

theorem isRowWord_of_fields {opc : BitVec 7} (h : decodeFields x f7 rs2 rs1 f3 rd opc = some row) :
    IsRowWord row (encR f7 rs2 rs1 f3 rd opc) := by
  unfold decodeFields at h
  split_ifs at h with hopP h0 h1 h2 h3 hop himm h32 hsystem hload hstore hlui hbranch
  · subst hopP h0
    exact isRowWord_of_opP0 h
  · subst hopP h1
    exact isRowWord_of_opP1 h
  · subst hopP h2
    exact isRowWord_of_opP2 h
  · subst hopP h3
    exact isRowWord_of_opP3 h
  · subst hop
    exact isRowWord_of_op h
  · subst himm
    exact isRowWord_of_opImm h
  · subst h32
    exact isRowWord_of_op32 h
  · subst hsystem
    exact isRowWord_of_system h
  · subst hload
    exact isRowWord_of_funct3 (by decide) h
  · subst hstore
    exact isRowWord_of_funct3 (by decide) h
  · subst hlui
    injection h with h
    subst h
    exact HasRowBits.isRowWord (fixed_upper _ _ _ _ _ _) (by decide)
  · subst hbranch
    exact isRowWord_of_funct3 (by decide) h

end Rows

/-! The round trip from a word. -/

theorem decodeRow_eq_some {x : Xlen} {w : Word} {row : Row} (h : decodeRow x w = some row) :
    IsRowWord row w ∧ Machine.known x row = true := by
  obtain ⟨hfields, hknown⟩ := Option.filter_eq_some_iff.mp h
  have hword := isRowWord_of_fields hfields
  rw [encR_fields] at hword
  exact ⟨hword, hknown⟩

theorem row_instrOf (row : Row) (w : Word) : (instrOf row w).row = row := by
  cases row <;> rfl

/-- Bit 0 of an offset read from a word is 0 (rule R63). -/
theorem evenOffset_offsetOf (w : Word) : evenOffset (offsetOf w) = true := by
  rw [evenOffset, offsetOf, BitVec.getLsbD_append]
  rfl

theorem offsetOk_instrOf (row : Row) (w : Word) : offsetOk (instrOf row w) = true := by
  cases row with
  | bne => exact evenOffset_offsetOf w
  | _ => rfl

/-- Settles O7: a word that is read as a row has the bits the row fixes, so the operands it holds encode to it. -/
theorem encodeOfDecodeIsTheWord : Obligations.EncodeOfDecodeIsTheWord := by
  unfold Obligations.EncodeOfDecodeIsTheWord
  intro x w i h
  obtain ⟨row, hrow, rfl⟩ := Option.map_eq_some_iff.mp h
  obtain ⟨hword, hknown⟩ := decodeRow_eq_some hrow
  refine ⟨?_, encode_instrOf hword.bits hword.swap⟩
  rw [wellFormed, row_instrOf, hknown, offsetOk_instrOf, hword.own]
  rfl

end Sys2Proof
end

section
/-!
From an instruction to its word and back (rules R62, R65 to R68, R70 to R78): the decoder reads an encoded instruction
whose word is its own as its row, and the operands read back.
-/

namespace Sys2Proof

open Laws

theorem decodeRow_encR {x : Xlen} {f7 : BitVec 7} {rs2 rs1 : Reg} {f3 : BitVec 3} {rd : Reg} {opc : BitVec 7}
    {row : Row} (hfields : decodeFields x f7 rs2 rs1 f3 rd opc = some row) (hknown : Machine.known x row = true) :
    decodeRow x (encR f7 rs2 rs1 f3 rd opc) = some row := by
  rw [decodeRow, funct7Of_encR, rs2Of_encR, rs1Of_encR, funct3Of_encR, rdOf_encR, opcodeOf_encR, hfields]
  exact Option.filter_eq_some_iff.mpr ⟨rfl, hknown⟩

/-! Rows whose key takes a part of rs2 or leaves out a part of funct7 (rules R65, R67). -/

/-- funct7 belongs to none of the groups under OP-P with funct3 = 000 that fix all of it, so that bits of rs2 belong
to the key (rule R65). -/
abbrev OpensShiftKey (f7 : BitVec 7) : Prop :=
  lookupRow f7 opPTable0 = none ∧ f7 ≠ 0b1010110#7 ∧ f7 ≠ 0b1010111#7 ∧ lookupRow f7 shift5Table0 = none

theorem decodeOpP0_of_opensShiftKey {f7 : BitVec 7} (h : OpensShiftKey f7) (x : Xlen) (rs2 : Reg) :
    decodeOpP0 x f7 rs2 = (lookupRow (f7 ++ rs2.extractLsb' 4 1) shift4Table <|>
      lookupRow (f7 ++ rs2.extractLsb' 3 2) shift3Table <|> decodeBitrevi x f7) := by
  obtain ⟨htable, honeop, honeop2, hshift⟩ := h
  rw [decodeOpP0, htable, if_neg honeop, if_neg honeop2, hshift]
  rfl

theorem decodeOpP0_shift4 {f7 : BitVec 7} {c : BitVec 1} {row : Row} (h : OpensShiftKey f7)
    (hrow : lookupRow (f7 ++ c) shift4Table = some row) (x : Xlen) (imm : BitVec 4) :
    decodeOpP0 x f7 (c ++ imm) = some row := by
  rw [decodeOpP0_of_opensShiftKey h, extract_high, hrow]
  rfl

theorem decodeOpP0_shift3 {f7 : BitVec 7} {c : BitVec 2} {row : Row} (h : OpensShiftKey f7)
    (h4 : ∀ b : BitVec 1, lookupRow (f7 ++ b) shift4Table = none)
    (hrow : lookupRow (f7 ++ c) shift3Table = some row) (x : Xlen) (imm : BitVec 3) :
    decodeOpP0 x f7 (c ++ imm) = some row := by
  rw [decodeOpP0_of_opensShiftKey h, h4, extract_high, hrow]
  rfl

theorem decodeOpP0_bitrevi {f7 : BitVec 7} (h : OpensShiftKey f7)
    (h4 : ∀ b : BitVec 1, lookupRow (f7 ++ b) shift4Table = none)
    (h3 : ∀ b : BitVec 2, lookupRow (f7 ++ b) shift3Table = none) (x : Xlen) (rs2 : Reg) :
    decodeOpP0 x f7 rs2 = decodeBitrevi x f7 := by
  rw [decodeOpP0_of_opensShiftKey h, h4, h3]
  rfl

theorem decodeOpP0_bitreviRv64 (b : BitVec 1) (rs2 : Reg) :
    decodeOpP0 .rv64 (0b111010#6 ++ b) rs2 = some .bitreviRv64 := by
  rcases BitVec.eq_zero_or_eq_one b with rfl | rfl
  · exact decodeOpP0_bitrevi (by decide) (by decide) (by decide) .rv64 rs2
  · exact decodeOpP0_bitrevi (by decide) (by decide) (by decide) .rv64 rs2

theorem decodeOpP1_sraiURv64 (b : BitVec 1) (rs2 rs1 : Reg) :
    decodeOpP1 .rv64 (0b110101#6 ++ b) rs2 rs1 = some .sraiURv64 := by
  rcases BitVec.eq_zero_or_eq_one b with rfl | rfl <;> rfl

theorem decodeOpP0_insbRv32 : ∀ imm : BitVec 2, decodeOpP0 .rv32 0b1010110#7 (0b000#3 ++ imm) = some .insbRv32 := by
  decide

theorem decodeOpP0_insbRv64 : ∀ imm : BitVec 3, decodeOpP0 .rv64 0b1010110#7 (0b00#2 ++ imm) = some .insbRv64 := by
  decide

/-! Rows that the values of operand fields tell apart (rules R27, R28, R244). -/

theorem decodeOpP1_pkbt16 {rs1 rs2 : Reg} (h : rs1 ≠ rs2) (x : Xlen) :
    decodeOpP1 x 0b0001111#7 rs2 rs1 = some .pkbt16 := congrArg some (if_neg h)

theorem decodeOpP1_swap16 (x : Xlen) (rs1 : Reg) :
    decodeOpP1 x 0b0001111#7 rs1 rs1 = some .swap16 := congrArg some (if_pos rfl)

theorem decodeSystem_csrrs {rs1 : Reg} (h : rs1 ≠ 0#5) (rd : Reg) :
    decodeSystem 0b0000000#7 0b01001#5 rs1 0b010#3 rd = some .csrrs := by
  have hrdov : ¬(0b010#3 = 0b010#3 ∧ rs1 = 0#5) := fun ⟨_, hsrc⟩ => h hsrc
  exact (if_pos rfl).trans (if_neg hrdov)

theorem decodeSystem_csrrci {rd uimm : Reg} (h : ¬(uimm = 1#5 ∧ rd = 0#5)) :
    decodeSystem 0b0000000#7 0b01001#5 uimm 0b111#3 rd = some .csrrci := by
  have hclrov : ¬(0b111#3 = 0b111#3 ∧ uimm = 1#5 ∧ rd = 0#5) := fun ⟨_, hboth⟩ => h hboth
  exact (if_pos rfl).trans (if_neg hclrov)

/-! Rows with a third source register above the low bits of funct7 (rule R66). -/

theorem decodeOp_cmix (rs3 : Reg) : decodeOp (rs3 ++ 0b11#2) 0b001#3 = some .cmix := if_pos (extract_low rs3 0b11#2)

theorem decodeOp_fsr (rs3 : Reg) : decodeOp (rs3 ++ 0b10#2) 0b101#3 = some .fsr := if_pos (extract_low rs3 0b10#2)

theorem decodeOp32_fsrw (rs3 : Reg) : decodeOp32 (rs3 ++ 0b10#2) 0b101#3 = some .fsrw :=
  if_pos ⟨rfl, extract_low rs3 0b10#2⟩

theorem decodeOpP3_bpick (rs3 : Reg) : decodeOpP3 (rs3 ++ 0b00#2) = some .bpick := if_pos (extract_low rs3 0b00#2)

theorem decodeOpImm_fsri (rs3 : Reg) (b : BitVec 1) (rs2 : Reg) :
    decodeOpImm (rs3 ++ 1#1 ++ b) rs2 0b101#3 = some .fsri :=
  if_pos ((extract_above (rs3 ++ 1#1) b 0 1).trans (extract_low rs3 1#1))

/-! A row of one width is known there alone (rule R71). -/

theorem eq_rv32_of_known {x : Xlen} {row : Row} (h : Machine.known x row = true)
    (habsent : (Machine.rowInfo row).rv64 = .absent) : x = .rv32 := by
  cases x with
  | rv32 => rfl
  | rv64 => rw [Machine.known, Machine.presence, habsent] at h; cases h

theorem eq_rv64_of_known {x : Xlen} {row : Row} (h : Machine.known x row = true)
    (habsent : (Machine.rowInfo row).rv32 = .absent) : x = .rv64 := by
  cases x with
  | rv32 => rw [Machine.known, Machine.presence, habsent] at h; cases h
  | rv64 => rfl

/-! The round trip from an instruction. -/

/-- An encoded instruction is read as its row: the rows with parts of a field in their key, or with a word to share,
by the lemmas above, and every other row by its table. -/
theorem decodeRow_encode {x : Xlen} {i : Instr} (hknown : Machine.known x i.row = true) (hown : ownWord i = true) :
    decodeRow x (encode i) = some i.row := by
  cases i with
  | smbb32 | kmada32 | pkbb32 | pktt32 => cases hown
  | csrrs rd rs1 => exact decodeRow_encR (decodeSystem_csrrs (ownWord_csrrs.mp hown) rd) hknown
  | csrrci rd uimm => exact decodeRow_encR (decodeSystem_csrrci (ownWord_csrrci.mp hown)) hknown
  | pkbt16 rd rs1 rs2 => exact decodeRow_encR (decodeOpP1_pkbt16 (ownWord_pkbt16.mp hown) x) hknown
  | swap16 rd rs1 => exact decodeRow_encR (decodeOpP1_swap16 x rs1) hknown
  | cmix => exact decodeRow_encR (decodeOp_cmix _) hknown
  | fsr => exact decodeRow_encR (decodeOp_fsr _) hknown
  | fsrw => exact decodeRow_encR (decodeOp32_fsrw _) hknown
  | bpick => exact decodeRow_encR (decodeOpP3_bpick _) hknown
  | fsri => exact decodeRow_encR (decodeOpImm_fsri _ _ _) hknown
  | srai16 | srai16U | srli16 | srli16U | slli16 | kslli16 | sclip16 | uclip16 =>
    exact decodeRow_encR (decodeOpP0_shift4 (by decide) rfl x _) hknown
  | srai8 | srai8U | srli8 | srli8U | slli8 | kslli8 | sclip8 | uclip8 =>
    exact decodeRow_encR (decodeOpP0_shift3 (by decide) (by decide) rfl x _) hknown
  | bitreviRv32 =>
    obtain rfl := eq_rv32_of_known hknown rfl
    exact decodeRow_encR (decodeOpP0_bitrevi (by decide) (by decide) (by decide) .rv32 _) hknown
  | bitreviRv64 =>
    obtain rfl := eq_rv64_of_known hknown rfl
    exact decodeRow_encR (decodeOpP0_bitreviRv64 _ _) hknown
  | sraiURv32 =>
    obtain rfl := eq_rv32_of_known hknown rfl
    exact decodeRow_encR rfl hknown
  | sraiURv64 =>
    obtain rfl := eq_rv64_of_known hknown rfl
    exact decodeRow_encR (decodeOpP1_sraiURv64 _ _ _) hknown
  | insbRv32 =>
    obtain rfl := eq_rv32_of_known hknown rfl
    exact decodeRow_encR (decodeOpP0_insbRv32 _) hknown
  | insbRv64 =>
    obtain rfl := eq_rv64_of_known hknown rfl
    exact decodeRow_encR (decodeOpP0_insbRv64 _) hknown
  | _ => exact decodeRow_encR rfl hknown

/-- Settles O6: the word of an instruction is read as its row, and its operands read back. -/
theorem decodeOfEncodeIsTheInstruction : Obligations.DecodeOfEncodeIsTheInstruction := by
  unfold Obligations.DecodeOfEncodeIsTheInstruction
  intro x i h
  rw [wellFormed, Bool.and_eq_true, Bool.and_eq_true] at h
  obtain ⟨⟨hknown, hoffset⟩, hown⟩ := h
  rw [decode, decodeRow_encode hknown hown, Option.map_some, instrOf_encode hoffset]

end Sys2Proof
end

section
/-!
ADDI, LUI and BNE (rules R81 to R83): their words by the fields of the spec, and their effects.
-/

namespace Sys2Proof.Machine

open Sys2Proof

/-! ADDI and LUI. -/

theorem encode_addi (rd rs1 : Reg) (imm : BitVec 12) :
    encode (.addi rd rs1 imm) = imm ++ rs1 ++ 0b000#3 ++ rd ++ 0b0010011#7 :=
  congrArg (fun v : BitVec 12 => v ++ rs1 ++ 0b000#3 ++ rd ++ 0b0010011#7) (append_extract (n := 7) (m := 5) imm)

theorem encode_lui (rd : Reg) (imm : BitVec 20) : encode (.lui rd imm) = imm ++ rd ++ 0b0110111#7 :=
  congrArg (fun v : BitVec 20 => v ++ rd ++ 0b0110111#7) (append_immU imm)

theorem exec_addi (s : State) (rd rs1 : Reg) (imm : BitVec 12) :
    exec (.addi rd rs1 imm) s = s.writeBits rd (trunc 64 (s.sx rs1 + imm.toInt)) := rfl

theorem exec_lui (s : State) (rd : Reg) (imm : BitVec 20) :
    exec (.lui rd imm) s = s.writeBits rd ((imm ++ 0#12).signExtend 64) := rfl

/-- Zeros below a signed number multiply it (rule R82). -/
theorem toInt_append_zero {w : Nat} (v : BitVec (w + 1)) (n : Nat) : (v ++ 0#n).toInt = v.toInt * 2 ^ n := by
  simp [BitVec.toInt_append, mul_comm]

/-- Settles O27: the sum is cut to XLEN bits, and the immediate above 12 zeros is a word, sign-extended. -/
theorem addiAndLui : Obligations.AddiAndLui := by
  unfold Obligations.AddiAndLui
  intro s rd rs1 imm up
  refine ⟨encode_addi rd rs1 imm, unsignedMod_of (exec_addi s rd rs1 imm) ?sum, encode_lui rd up,
    signed_of (exec_lui s rd up) ?upper⟩
  case sum =>
    rw [toNat_trunc]
    exact Int.emod_emod_of_dvd _ (two_pow_xlen_dvd s)
  case upper =>
    have hword : 31 + 1 ≤ s.cfg.xlen.bits := by cases s.cfg.xlen <;> decide
    exact (signedX_signExtend s.cfg.xlen (up ++ 0#12) hword).trans (toInt_append_zero (w := 19) up 12)

/-! BNE. -/

theorem encode_bne (rs1 rs2 : Reg) (offset : BitVec 13) :
    encode (.bne rs1 rs2 offset) = offset.extractLsb' 12 1 ++ offset.extractLsb' 5 6 ++ rs2 ++ rs1 ++ 0b001#3 ++
      offset.extractLsb' 1 4 ++ offset.extractLsb' 11 1 ++ 0b1100011#7 := by
  have hsplit (v : BitVec 20) (a : BitVec 4) (b : BitVec 1) : v ++ (a ++ b) = v ++ a ++ b := by
    rw [BitVec.append_assoc, BitVec.cast_eq]
  exact congrArg (fun v : BitVec 25 => v ++ 0b1100011#7) (hsplit _ _ _)

/-- Where a taken BNE goes (rule R83). -/
def State.branchTarget (s : State) (offset : BitVec 13) : XWord := wrapX s.cfg.xlen (s.pc + offset.signExtend 64)

theorem exec_bne_equal {s : State} {rs1 rs2 : Reg} (offset : BitVec 13) (h : s.x rs1 = s.x rs2) :
    exec (.bne rs1 rs2 offset) s = .next s.advance := if_pos h

theorem exec_bne_differ {s : State} {rs1 rs2 : Reg} (offset : BitVec 13) (h : s.x rs1 ≠ s.x rs2) :
    exec (.bne rs1 rs2 offset) s = s.jump (s.branchTarget offset) := if_neg h

/-- The target is the sum of the pc and the signed offset modulo 2^XLEN (rule R83). -/
theorem toNat_branchTarget (s : State) (offset : BitVec 13) :
    ((s.branchTarget offset).toNat : Int) = ((s.pcv.toNat : Int) + offset.toInt) % 2 ^ s.xlen := by
  have hsum : s.pc + offset.signExtend 64 = trunc 64 (uval s.pc + offset.toInt) := by
    rw [trunc, BitVec.ofInt_add]
    exact congrArg (· + offset.signExtend 64) (trunc_uval s.pc).symm
  have hpc : (s.pcv.toNat : Int) = uval s.pc % 2 ^ s.xlen := by
    rw [State.pcv, toNat_wrapX]
    exact_mod_cast rfl
  have htarget : ((s.branchTarget offset).toNat : Int) = (trunc 64 (uval s.pc + offset.toInt)).toNat % 2 ^ s.xlen := by
    rw [State.branchTarget, toNat_wrapX, hsum]
    exact_mod_cast rfl
  rw [htarget, hpc, toNat_trunc, Int.emod_add_emod]
  exact Int.emod_emod_of_dvd _ (two_pow_xlen_dvd s)

theorem branchTarget_eq {s : State} {offset : BitVec 13} {target : XWord}
    (h : (target.toNat : Int) = ((s.pcv.toNat : Int) + offset.toInt) % 2 ^ s.xlen) : s.branchTarget offset = target :=
  BitVec.eq_of_toNat_eq (Int.ofNat_inj.mp ((toNat_branchTarget s offset).trans h.symm))

/-- A jump to a multiple of 4 goes there (rule R44). -/
theorem jump_aligned {s : State} {target : XWord} (h : target.toNat % 4 = 0) :
    s.jump target = .next { s with pc := target } := if_pos (aligned_iff.mpr h)

theorem jump_misaligned {s : State} {target : XWord} (h : target.toNat % 4 ≠ 0) :
    s.jump target = .fault (.instructionAddressMisaligned s.pcv target) := by
  rw [State.jump, aligned_eq_false h]
  rfl

/-- Going on with the next instruction writes nothing else (rule R21). -/
theorem frame_advance (s : State) : Frame s s.advance [] := by
  have h := frame_setX s 0#5 0#64
  rw [setX_zero] at h
  exact h.of_zero

/-- Settles O28: a taken BNE is a jump to its target, one not taken goes on with the next instruction. -/
theorem bneBranches : Obligations.BneBranches := by
  unfold Obligations.BneBranches
  refine ⟨encode_bne, fun s rs1 rs2 offset target _ htarget => ?_⟩
  obtain rfl := branchTarget_eq htarget
  refine ⟨fun hdiffer haligned => ?taken, fun hdiffer hmisaligned => ?misaligned, fun hequal => ?equal⟩
  case taken =>
    have hexec := (exec_bne_differ offset hdiffer).trans (jump_aligned haligned)
    exact ⟨_, hexec, rfl, rfl, fun _ => rfl, ⟨rfl, rfl, rfl⟩, fun _ => rfl, wrapX_wrapX _ _⟩
  case misaligned => exact (exec_bne_differ offset hdiffer).trans (jump_misaligned hmisaligned)
  case equal => exact ⟨_, exec_bne_equal offset hequal, frame_advance s, rfl, rfl, rfl⟩

end Sys2Proof.Machine
end

section
/-!
The words that the spec writes out (30_encoding.md), and the words of the removed instructions (rule R114).
-/

namespace Sys2Proof.Machine

open Sys2Proof

/-- A word that is the encoding of a well-formed instruction is read as it (rules R60, R61). -/
theorem decode_of_encode_eq {x : Xlen} {i : Instr} {w : Word} (hword : encode i = w) (hwf : wellFormed x i = true) :
    decode x w = some i :=
  hword ▸ decodeOfEncodeIsTheInstruction x i hwf

/-- Settles O5: each word is the encoding of its instruction, which is well formed at the width named. -/
theorem decodeReadsSpecWords : Obligations.DecodeReadsSpecWords := by
  unfold Obligations.DecodeReadsSpecWords
  and_intros
  all_goals exact decode_of_encode_eq (by decide) (by decide)

/-- The bytes of a word are those of its value (rule R41). -/
theorem littleEndian_word (w : Word) :
    littleEndian [w.extractLsb' 0 8, w.extractLsb' 8 8, w.extractLsb' 16 8, w.extractLsb' 24 8] = w.toNat := by
  have hlt : w.toNat < 2 ^ 32 := w.isLt
  simp only [littleEndian, BitVec.extractLsb'_toNat, Nat.shiftRight_eq_div_pow]
  omega

/-- The fetch reads the word whose bytes are at the pc (rules R41, R50). -/
theorem fetch_of_fetches {s : State} {w : Word} (h : Fetches s w) : s.fetch = .ok w := by
  obtain ⟨-, hacc, hbytes⟩ := h
  obtain ⟨ha, hr⟩ := accessible_iff.mp hacc
  have hread : Memory.read s.mem s.pcv.toNat 4 = some w.toNat := littleEndian_word w ▸ read_of_bytesAt hbytes
  simp [State.fetch, ha, hr, hread]

/-- A step decodes and runs the word it fetches (rule R586). -/
theorem step_of_fetches {s : State} {w : Word} (h : Fetches s w) : step s = s.runWord w := by
  have hrun : s.ended = false := h.1
  simp [step, State.cycle, hrun, fetch_of_fetches h]

/-- A word that is no instruction of the configured hardware raises when it is run (rule R551). -/
theorem runWord_of_legalRow_none {s : State} {w : Word} (h : legalRow s.cfg w = none) :
    s.runWord w = .fault (.illegalInstruction s.pcv w) := by
  rw [State.runWord, h]
  rfl

/-- A row that is removed at both widths is on no hardware (rules R114, R551). -/
theorem rowPresent_of_removed {row : Row} (hremoved : ∀ x, presence x row = .removed) (c : Config) :
    rowPresent c row = false := by
  rw [rowPresent, hremoved c.xlen]
  rfl

/-- A step that fetches the word of a removed row raises IllegalInstruction (rules R114, R551). -/
theorem step_of_removed {s : State} {i : Instr} (hremoved : ∀ x, presence x i.row = .removed)
    (hown : ownWord i = true) (h : Fetches s (encode i)) :
    step s = .fault (.illegalInstruction s.pcv (encode i)) := by
  have hknown : known s.cfg.xlen i.row = true := by
    rw [known, hremoved]
    rfl
  have hnone : legalRow s.cfg (encode i) = none := by
    rw [legalRow, decodeRow_encode hknown hown, Option.filter_some, rowPresent_of_removed hremoved, Bool.false_and]
    rfl
  rw [step_of_fetches h, runWord_of_legalRow_none hnone]

/-- The rows that rule R114 removes are removed at both widths. -/
theorem presence_of_mem_removedRows {row : Row} (h : row ∈ removedRows) (x : Xlen) : presence x row = .removed := by
  revert row
  cases x <;> decide

/-- Settles O21: the three meanings raise, and no hardware has the rows of their words. -/
theorem removedInstructionsAreIllegal : Obligations.RemovedInstructionsAreIllegal := by
  unfold Obligations.RemovedInstructionsAreIllegal
  intro s rd rs1 rs2 rc
  refine ⟨rfl, rfl, rfl, fun i hi hfetch => ?_⟩
  simp only [List.mem_cons, List.not_mem_nil, or_false] at hi
  obtain rfl | rfl | rfl := hi
  · exact step_of_removed (presence_of_mem_removedRows (row := .bpick) (by decide)) rfl hfetch
  · exact step_of_removed (presence_of_mem_removedRows (row := .maxw) (by decide)) rfl hfetch
  · exact step_of_removed (presence_of_mem_removedRows (row := .minw) (by decide)) rfl hfetch

end Sys2Proof.Machine
end

section
/-!
The results of the Zbpbo instructions (40_zbpbo.md): selections of bits, the count of leading zeros, the greater and
the smaller value.
-/

namespace Sys2Proof.Machine

open Sys2Proof

/-! The 64 bits of two words, and their rotation. -/

theorem getLsbD_append_words (hi lo : XWord) {k : Nat} (hk : k < 64) :
    (hi.setWidth 32 ++ lo.setWidth 32 : XWord).getLsbD k = bitOfWords hi lo k := by
  refine (BitVec.getLsbD_append (n := 32) (m := 32)).trans ?_
  unfold bitOfWords
  by_cases h : k < 32
  · simp [h]
  · have hhigh : k - 32 < 32 := by omega
    simp [h, hhigh]

/-- Two words in the other order are the same bits, 32 places further on. -/
theorem bitOfWords_swap (hi lo : XWord) {k : Nat} (hk : k < 64) :
    bitOfWords lo hi k = bitOfWords hi lo ((k + 32) % 64) := by
  unfold bitOfWords
  by_cases h : k < 32
  · have hmod : (k + 32) % 64 = k + 32 := Nat.mod_eq_of_lt (by omega)
    simp [h, hmod]
  · have hmod : (k + 32) % 64 = k - 32 := by omega
    have hlow : k - 32 < 32 := by omega
    simp [h, hmod, hlow]

/-- Bit b of the low word of `{hi, lo}` rotated right by n, sign-extended (rules R103, R106). -/
theorem getLsbD_funnel (hi lo : XWord) {n b : Nat} (hn : n < 64) (hb : b < 64) :
    ((funnel (hi.setWidth 32) (lo.setWidth 32) n).signExtend 64).getLsbD b =
      bitOfWords hi lo ((min b 31 + n) % 64) := by
  unfold funnel
  split
  next hge =>
    have hmod : (n - 32 + min b 31 + 32) % 64 = (min b 31 + n) % 64 := by congr 1; omega
    refine (getLsbD_wordAt (n - 32) _ b hb).trans ?_
    rw [getLsbD_append_words lo hi (by omega), bitOfWords_swap hi lo (by omega), hmod]
  next hlt =>
    have hmod : n + min b 31 = (min b 31 + n) % 64 := by omega
    refine (getLsbD_wordAt n _ b hb).trans ?_
    rw [getLsbD_append_words hi lo (by omega), hmod]

/-! Results given bit by bit. -/

section Results

variable {s : State} {i : Instr} {rd : Reg}

theorem lt_64_of_lt_xlen {b : Nat} (hb : b < s.xlen) : b < 64 := Nat.lt_of_lt_of_le hb (bits_le s.cfg.xlen)

theorem Bits.congr {f g : Nat → Bool} (h : Bits s i rd f) (hfg : ∀ b, b < s.xlen → f b = g b) : Bits s i rd g :=
  Completes.imp h fun _ ht hrd b hb => (ht hrd b hb).trans (hfg b hb)

/-- A meaning that writes a rotated word (rules R103, R104, R106). -/
theorem bits_of_funnel {rs1 rs3 : Reg} {n : Nat} (hn : n < 64)
    (h : exec i s = s.writeBits rd ((funnel ((s.x rs3).setWidth 32) ((s.x rs1).setWidth 32) n).signExtend 64)) :
    Bits s i rd fun b => bitOfWords (s.x rs3) (s.x rs1) ((min b 31 + n) % 64) :=
  bits_of h fun _ hb => getLsbD_funnel _ _ hn (lt_64_of_lt_xlen hb)

theorem xlen_eq_halves (s : State) : s.xlen / 2 * 2 = s.xlen ∧ s.lanes (s.xlen / 2) = 2 := by
  unfold State.lanes State.xlen
  cases s.cfg.xlen <;> decide

/-- A meaning that joins half `a` of `x[rs1]` below half `a` of `x[rs2]` (rules R109, R110). -/
theorem bits_of_halves {rs1 rs2 : Reg} {a : Nat}
    (h : exec i s = s.writeLanes rd (s.xlen / 2) fun j => s.ul (s.xlen / 2) (if j = 0 then rs1 else rs2) a) :
    Bits s i rd fun b => if b < s.xlen / 2 then (s.x rs1).getLsbD (s.xlen / 2 * a + b)
      else (s.x rs2).getLsbD (s.xlen / 2 * a + (b - s.xlen / 2)) := by
  obtain ⟨hwidth, hlanes⟩ := xlen_eq_halves s
  refine bits_of h fun b hb => ?_
  have h64 : s.xlen ≤ 64 := bits_le s.cfg.xlen
  have hpos : 0 < s.xlen / 2 := by omega
  simp only [State.lanesOf, State.ul, trunc_uval, hlanes]
  rw [getLsbD_packLanes _ 2 _ hpos (by omega), decide_eq_true (by omega), Bool.true_and]
  by_cases hlow : b < s.xlen / 2
  · simp [lane, hlow, Nat.div_eq_of_lt hlow, Nat.mod_eq_of_lt hlow]
  · have hdiv : b / (s.xlen / 2) = 1 := Nat.div_eq_of_lt_le (by omega) (by omega)
    have hmod : b % (s.xlen / 2) = b - s.xlen / 2 := by
      rw [Nat.mod_eq_sub_mod (by omega), Nat.mod_eq_of_lt (by omega)]
    have hhigh : b - s.xlen / 2 < s.xlen / 2 := by omega
    simp [lane, hlow, hdiv, hmod, hhigh]

end Results

/-- Bit b of a bitwise choice between two values (rule R102). -/
theorem getLsbD_mix (mask v w : XWord) {b : Nat} (hb : b < 64) :
    ((v &&& mask) ||| (w &&& ~~~mask)).getLsbD b = if mask.getLsbD b then v.getLsbD b else w.getLsbD b := by
  rw [BitVec.getLsbD_or, BitVec.getLsbD_and, BitVec.getLsbD_and, BitVec.getLsbD_not, decide_eq_true hb]
  cases mask.getLsbD b <;> simp

theorem partner_eq_topBottom (j : Nat) : partner j = topBottom j (j - 1) (j + 1) := rfl

/-- Settles O29: each meaning writes a value whose bits, or lanes, are known. -/
theorem zbpboBitSelection : Obligations.ZbpboBitSelection := by
  unfold Obligations.ZbpboBitSelection
  intro s rd rs1 rs2 rs3 imm
  have hlow : s.low 6 rs2 = (s.x rs2).toNat % 64 := low_eq s 6 rs2
  have hamount : s.low 6 rs2 < 64 := ((s.x rs2).setWidth 6).isLt
  refine ⟨?cmix, ?fsr, ?fsri, ?fsrw, ?pack, ?packu, fun hx => ?rev32, fun hx => ?rev64, ?rev8⟩
  case cmix => exact bits_of rfl fun b hb => getLsbD_mix _ _ _ (lt_64_of_lt_xlen hb)
  case fsr => exact hlow ▸ bits_of_funnel (i := .fsr rd rs1 rs2 rs3) hamount rfl
  case fsri => exact bits_of_funnel imm.isLt rfl
  case fsrw => exact hlow ▸ bits_of_funnel (i := .fsrw rd rs1 rs2 rs3) hamount rfl
  case pack => simpa using bits_of_halves (i := .pack rd rs1 rs2) (a := 0) rfl
  case packu =>
    refine (bits_of_halves (i := .packu rd rs1 rs2) (a := 1) rfl).congr fun b _ => ?_
    by_cases h : b < s.xlen / 2
    · rw [if_pos h, if_pos h, Nat.mul_one, Nat.add_comm]
    · rw [if_neg h, if_neg h, Nat.mul_one, Nat.add_sub_cancel' (Nat.not_lt.mp h)]
  case rev32 =>
    refine bits_of rfl fun b hb => (getLsbD_bitReverse 31 (s.x rs1) b (by decide)).trans ?_
    have hb' : b < 16 + 16 := xlen_of_rv32 hx ▸ hb
    rw [decide_eq_true (by omega), Bool.true_and]
  case rev64 =>
    refine bits_of rfl fun b hb => (getLsbD_bitReverse 63 (s.x rs1) b (by decide)).trans ?_
    have hb' := lt_64_of_lt_xlen hb
    rw [decide_eq_true (by omega), Bool.true_and]
  case rev8 =>
    refine lanes_of rfl fun j _ => ?_
    rw [State.ul, trunc_uval, partner_eq_topBottom]

/-! Counts and comparisons. -/

/-- A count of at most 32 written to a register reads back (rule R20). -/
theorem toNat_wrapX_trunc (x : Xlen) {n : Nat} (hn : n ≤ 32) : (wrapX x (trunc 64 (n : Int))).toNat = n := by
  have hcut : (trunc 64 (n : Int)).toNat = n := Int.ofNat_inj.mp (toNat_trunc_of 64 n (by omega) (by omega))
  have hfits : 2 ^ 32 ≤ 2 ^ x.bits := Nat.pow_le_pow_right (by decide) (by cases x <;> decide)
  rw [toNat_wrapX, hcut, Nat.mod_eq_of_lt (by omega)]

/-- A meaning that writes the leading zeros of a word (rule R101). -/
theorem completes_clzOf {s : State} {i : Instr} {rd : Reg} {v : BitVec 32} (h : exec i s = s.writeX rd (clzOf v)) :
    Completes s i [rd] fun t => rd ≠ 0#5 → LeadingZeros v (t.x rd).toNat := by
  obtain ⟨n, hclz, hzeros⟩ := clzOf_spec v
  obtain ⟨t, he, hframe, hkept, hx⟩ := writeBits_effect s rd (trunc 64 (clzOf v))
  refine ⟨t, h.trans he, hframe, hkept, fun hrd => ?_⟩
  have hle : n ≤ 32 := hzeros.1
  rw [hx hrd, hclz, toNat_wrapX_trunc _ hle]
  exact hzeros

/-- A meaning that writes the signed value of some register (rules R107, R108). -/
theorem signed_of_sx {s : State} {i : Instr} {rd : Reg} {k : Int} (r : Reg) (hk : k = s.sx r)
    (h : exec i s = s.writeX rd k) : Signed s i rd k := by
  obtain ⟨hlo, hhi⟩ := sx_range s r
  exact signed_of h (signedX_trunc _ _ (hk ▸ hlo) (hk ▸ hhi))

theorem exec_max (s : State) (rd rs1 rs2 : Reg) :
    exec (.max rd rs1 rs2) s = s.writeX rd (max (s.sx rs1) (s.sx rs2)) := by
  rw [max_def']
  rfl

theorem exec_min (s : State) (rd rs1 rs2 : Reg) :
    exec (.min rd rs1 rs2) s = s.writeX rd (min (s.sx rs1) (s.sx rs2)) := by
  rw [min_def']
  rfl

/-- Settles O30: CLZ writes the count of `clzOf`, MAX and MIN the value of the one register or the other. -/
theorem clzMaxMin : Obligations.ClzMaxMin := by
  unfold Obligations.ClzMaxMin
  intro s rd rs1 rs2
  refine ⟨completes_clzOf rfl, ?max, ?min⟩
  case max =>
    obtain hmax | hmax := max_choice (s.sx rs1) (s.sx rs2)
    · exact signed_of_sx rs1 hmax (exec_max s rd rs1 rs2)
    · exact signed_of_sx rs2 hmax (exec_max s rd rs1 rs2)
  case min =>
    obtain hmin | hmin := min_choice (s.sx rs1) (s.sx rs2)
    · exact signed_of_sx rs1 hmin (exec_min s rd rs1 rs2)
    · exact signed_of_sx rs2 hmin (exec_min s rd rs1 rs2)

end Sys2Proof.Machine
end

section
/-!
The additions and subtractions of lanes of 8, 16 and 32 bits: the six operations of rule R130, each with the five
overflow treatments of rule R131.
-/

namespace Sys2Proof.Machine

/-! The operations, as the meanings compute them and as the statements give them. -/

/-- The operations of rule R130: addition, subtraction, and the crossed and straight pairs of one of each. -/
inductive LaneOp where
  | add | sub | cras | crsa | stas | stsa

namespace LaneOp

/-- Lane j of the exact result, in the terms of the meanings. -/
def meaning (op : LaneOp) (a b : Nat → Int) (j : Nat) : Int :=
  match op with
  | add => a j + b j
  | sub => a j - b j
  | cras => topAdds j (a j) (b (partner j))
  | crsa => topSubtracts j (a j) (b (partner j))
  | stas => topAdds j (a j) (b j)
  | stsa => topSubtracts j (a j) (b j)

/-- Lane j of the exact result, in the terms of the statements. -/
def result (op : LaneOp) (a b : Nat → Int) (j : Nat) : Int :=
  match op with
  | add => a j + b j
  | sub => a j - b j
  | cras => topBottom j (a j + b (j - 1)) (a j - b (j + 1))
  | crsa => topBottom j (a j - b (j - 1)) (a j + b (j + 1))
  | stas => topBottom j (a j + b j) (a j - b j)
  | stsa => topBottom j (a j - b j) (a j + b j)

end LaneOp

theorem topAdds_partner (k : Int) (b : Nat → Int) (j : Nat) :
    topAdds j k (b (partner j)) = topBottom j (k + b (j - 1)) (k - b (j + 1)) := by
  unfold topAdds partner topBottom
  split <;> rfl

theorem topSubtracts_partner (k : Int) (b : Nat → Int) (j : Nat) :
    topSubtracts j k (b (partner j)) = topBottom j (k - b (j - 1)) (k + b (j + 1)) := by
  unfold topSubtracts partner topBottom
  split <;> rfl

theorem LaneOp.meaning_eq_result (op : LaneOp) (a b : Nat → Int) (j : Nat) : op.meaning a b j = op.result a b j := by
  cases op with
  | add | sub | stas | stsa => rfl
  | cras => exact topAdds_partner (a j) b j
  | crsa => exact topSubtracts_partner (a j) b j

/-- A lane that holds one of two values meets what both meet. -/
theorem topBottom_of_both {α : Type} {p : α → Prop} (j : Nat) {top bottom : α} (htop : p top) (hbottom : p bottom) :
    p (topBottom j top bottom) := by
  unfold topBottom
  split
  · exact htop
  · exact hbottom

/-- `k` is the sum or the difference of `x` and some `b i`. -/
def SumOrDifference (x : Int) (b : Nat → Int) (k : Int) : Prop := ∃ i, k = x + b i ∨ k = x - b i

theorem sumOrDifference_add (x : Int) (b : Nat → Int) (i : Nat) : SumOrDifference x b (x + b i) := ⟨i, .inl rfl⟩

theorem sumOrDifference_sub (x : Int) (b : Nat → Int) (i : Nat) : SumOrDifference x b (x - b i) := ⟨i, .inr rfl⟩

/-- Every operation adds or subtracts two lanes (rule R130). -/
theorem LaneOp.sumOrDifference_result (op : LaneOp) (a b : Nat → Int) (j : Nat) :
    SumOrDifference (a j) b (op.result a b j) := by
  cases op with
  | add => exact sumOrDifference_add _ _ _
  | sub => exact sumOrDifference_sub _ _ _
  | cras | stas => exact topBottom_of_both j (sumOrDifference_add _ _ _) (sumOrDifference_sub _ _ _)
  | crsa | stsa => exact topBottom_of_both j (sumOrDifference_sub _ _ _) (sumOrDifference_add _ _ _)

/-! The treatments, for every operation. -/

theorem halve_eq (k : Int) : halve k = k / 2 := rfl

/-- A sum or difference of two numbers of a signed range lies in that range when halved (rule R131). -/
theorem half_bounds {A x k : Int} {b : Nat → Int} (h : SumOrDifference x b k) (hx : -A ≤ x ∧ x < A)
    (hb : ∀ i, -A ≤ b i ∧ b i < A) : -A ≤ k / 2 ∧ k / 2 < A := by
  obtain ⟨i, hsum | hdiff⟩ := h
  all_goals
    have hbi := hb i
    omega

section Treatments

variable {s : State} {i : Instr} {rd rs1 rs2 : Reg} {w : Nat}

/-- Wrap-around. -/
theorem lanesMod_of_laneOp (op : LaneOp)
    (h : exec i s = s.writeLanes rd w fun j => op.meaning (s.ul w rs1) (s.ul w rs2) j) :
    LanesMod s i rd w fun j => op.result (s.ul w rs1) (s.ul w rs2) j :=
  lanesMod_of h fun j _ => by rw [op.meaning_eq_result]

/-- Signed halving: the half always fits. -/
theorem lanesSigned_of_halved (op : LaneOp)
    (h : exec i s = s.writeLanes rd (w + 1) fun j => halve (op.meaning (s.sl (w + 1) rs1) (s.sl (w + 1) rs2) j)) :
    LanesSigned s i rd (w + 1) fun j => op.result (s.sl (w + 1) rs1) (s.sl (w + 1) rs2) j / 2 :=
  lanesSigned_of h fun j _ => by
    have hbounds := half_bounds (op.sumOrDifference_result (s.sl (w + 1) rs1) (s.sl (w + 1) rs2) j)
      ⟨sl_ge s w rs1 j, sl_lt s w rs1 j⟩ fun k => ⟨sl_ge s w rs2 k, sl_lt s w rs2 k⟩
    exact ⟨by rw [halve_eq, op.meaning_eq_result], hbounds⟩

/-- Unsigned halving. -/
theorem lanesMod_of_halved (op : LaneOp)
    (h : exec i s = s.writeLanes rd w fun j => halve (op.meaning (s.ul w rs1) (s.ul w rs2) j)) :
    LanesMod s i rd w fun j => op.result (s.ul w rs1) (s.ul w rs2) j / 2 :=
  lanesMod_of h fun j _ => by rw [halve_eq, op.meaning_eq_result]

/-- Signed saturation. -/
theorem lanesSat_of_laneOp (op : LaneOp)
    (h : exec i s = s.clipLanes rd (w + 1) fun j => satq w (op.meaning (s.sl (w + 1) rs1) (s.sl (w + 1) rs2) j)) :
    LanesSat s i rd (w + 1) (-2 ^ w) (2 ^ w - 1) fun j => op.result (s.sl (w + 1) rs1) (s.sl (w + 1) rs2) j :=
  lanesSat_of le_rfl h fun j _ => op.meaning_eq_result _ _ j

/-- Unsigned saturation. -/
theorem lanesUnsignedSat_of_laneOp (op : LaneOp)
    (h : exec i s = s.clipLanes rd w fun j => satu w (op.meaning (s.ul w rs1) (s.ul w rs2) j)) :
    LanesUnsignedSat s i rd w fun j => op.result (s.ul w rs1) (s.ul w rs2) j :=
  lanesUnsignedSat_of h fun j _ => op.meaning_eq_result _ _ j

end Treatments

/-! The statements: the 8-bit additions and subtractions, then all six operations at 16 and at 32 bits. -/

/-- Settles O31: each meaning writes the operation's lanes, cut to the lane's width. -/
theorem wrappingLaneArithmetic : Obligations.WrappingLaneArithmetic := by
  unfold Obligations.WrappingLaneArithmetic
  intro s rd rs1 rs2
  exact ⟨lanesMod_of_laneOp .add rfl, lanesMod_of_laneOp .sub rfl,
    lanesMod_of_laneOp .add rfl, lanesMod_of_laneOp .sub rfl, lanesMod_of_laneOp .cras rfl,
    lanesMod_of_laneOp .crsa rfl, lanesMod_of_laneOp .stas rfl, lanesMod_of_laneOp .stsa rfl,
    lanesMod_of_laneOp .add rfl, lanesMod_of_laneOp .sub rfl, lanesMod_of_laneOp .cras rfl,
    lanesMod_of_laneOp .crsa rfl, lanesMod_of_laneOp .stas rfl, lanesMod_of_laneOp .stsa rfl⟩

/-- Settles O32: each meaning writes the halves of the operation's signed lanes, which fit. -/
theorem signedHalvingLaneArithmetic : Obligations.SignedHalvingLaneArithmetic := by
  unfold Obligations.SignedHalvingLaneArithmetic
  intro s rd rs1 rs2
  exact ⟨lanesSigned_of_halved .add rfl, lanesSigned_of_halved .sub rfl,
    lanesSigned_of_halved .add rfl, lanesSigned_of_halved .sub rfl, lanesSigned_of_halved .cras rfl,
    lanesSigned_of_halved .crsa rfl, lanesSigned_of_halved .stas rfl, lanesSigned_of_halved .stsa rfl,
    lanesSigned_of_halved .add rfl, lanesSigned_of_halved .sub rfl, lanesSigned_of_halved .cras rfl,
    lanesSigned_of_halved .crsa rfl, lanesSigned_of_halved .stas rfl, lanesSigned_of_halved .stsa rfl⟩

/-- Settles O33: each meaning writes the halves of the operation's unsigned lanes, cut to the lane's width. -/
theorem unsignedHalvingLaneArithmetic : Obligations.UnsignedHalvingLaneArithmetic := by
  unfold Obligations.UnsignedHalvingLaneArithmetic
  intro s rd rs1 rs2
  exact ⟨lanesMod_of_halved .add rfl, lanesMod_of_halved .sub rfl,
    lanesMod_of_halved .add rfl, lanesMod_of_halved .sub rfl, lanesMod_of_halved .cras rfl,
    lanesMod_of_halved .crsa rfl, lanesMod_of_halved .stas rfl, lanesMod_of_halved .stsa rfl,
    lanesMod_of_halved .add rfl, lanesMod_of_halved .sub rfl, lanesMod_of_halved .cras rfl,
    lanesMod_of_halved .crsa rfl, lanesMod_of_halved .stas rfl, lanesMod_of_halved .stsa rfl⟩

/-- Settles O34: each meaning clips the operation's signed lanes. -/
theorem signedSaturatingLaneArithmetic : Obligations.SignedSaturatingLaneArithmetic := by
  unfold Obligations.SignedSaturatingLaneArithmetic
  intro s rd rs1 rs2
  exact ⟨lanesSat_of_laneOp .add rfl, lanesSat_of_laneOp .sub rfl,
    lanesSat_of_laneOp .add rfl, lanesSat_of_laneOp .sub rfl, lanesSat_of_laneOp .cras rfl,
    lanesSat_of_laneOp .crsa rfl, lanesSat_of_laneOp .stas rfl, lanesSat_of_laneOp .stsa rfl,
    lanesSat_of_laneOp .add rfl, lanesSat_of_laneOp .sub rfl, lanesSat_of_laneOp .cras rfl,
    lanesSat_of_laneOp .crsa rfl, lanesSat_of_laneOp .stas rfl, lanesSat_of_laneOp .stsa rfl⟩

/-- Settles O35: each meaning clips the operation's unsigned lanes. -/
theorem unsignedSaturatingLaneArithmetic : Obligations.UnsignedSaturatingLaneArithmetic := by
  unfold Obligations.UnsignedSaturatingLaneArithmetic
  intro s rd rs1 rs2
  exact ⟨lanesUnsignedSat_of_laneOp .add rfl, lanesUnsignedSat_of_laneOp .sub rfl,
    lanesUnsignedSat_of_laneOp .add rfl, lanesUnsignedSat_of_laneOp .sub rfl, lanesUnsignedSat_of_laneOp .cras rfl,
    lanesUnsignedSat_of_laneOp .crsa rfl, lanesUnsignedSat_of_laneOp .stas rfl, lanesUnsignedSat_of_laneOp .stsa rfl,
    lanesUnsignedSat_of_laneOp .add rfl, lanesUnsignedSat_of_laneOp .sub rfl, lanesUnsignedSat_of_laneOp .cras rfl,
    lanesUnsignedSat_of_laneOp .crsa rfl, lanesUnsignedSat_of_laneOp .stas rfl, lanesUnsignedSat_of_laneOp .stsa rfl⟩

end Sys2Proof.Machine
end

section
/-!
The shifts of lanes of 8, 16 and 32 bits (rules R181, R182): right shifts, plain and rounding, left shifts, and the
shifts to either side, by an immediate or by the low bits of a register (rule R69).
-/

namespace Sys2Proof.Machine

/-! The right shifts, as the meanings compute them and as the statements give them. -/

/-- The right shifts of rule R181: the discarded bits are dropped, or the most significant of them is added in. -/
inductive RightShift where
  | plain | rounding

namespace RightShift

/-- `k` shifted right by `n`, in the terms of the meanings. -/
def meaning : RightShift → Int → Nat → Int
  | plain => asr
  | rounding => rnd

/-- `k` shifted right by `n`, in the terms of the statements. -/
def result (shift : RightShift) (k : Int) (n : Nat) : Int :=
  match shift with
  | plain => k / 2 ^ n
  | rounding => roundShift k n

theorem meaning_eq_result (shift : RightShift) (k : Int) (n : Nat) : shift.meaning k n = shift.result k n := by
  cases shift with
  | plain => rfl
  | rounding => exact rnd_eq k n

theorem result_ge (shift : RightShift) {lo k : Int} (n : Nat) (hlo : lo ≤ 0) (h : lo ≤ k) :
    lo ≤ shift.result k n := by
  cases shift with
  | plain => exact ediv_ge lo k _ (by positivity) hlo h
  | rounding => exact roundShift_ge lo k n hlo h

/-- Rounding up can reach 1, so the bound is at least 2. -/
theorem result_lt (shift : RightShift) {k : Int} (w n : Nat) (h : k < 2 ^ (w + 1)) :
    shift.result k n < 2 ^ (w + 1) := by
  cases shift with
  | plain => exact ediv_lt _ k _ (by positivity) (by positivity) h
  | rounding => exact roundShift_lt _ k n (one_lt_pow₀ (by decide) w.succ_ne_zero) h

/-- A right shift stays in the range of a signed lane of at least two bits. -/
theorem result_signed_bounds (shift : RightShift) (w n : Nat) (k : Int) :
    (-2 ^ (w + 1) ≤ k → -2 ^ (w + 1) ≤ shift.result k n) ∧ (k < 2 ^ (w + 1) → shift.result k n < 2 ^ (w + 1)) :=
  ⟨shift.result_ge n (neg_nonpos.mpr (by positivity)), shift.result_lt w n⟩

end RightShift

/-! Each kind of shift for lanes of any width; `m` is the amount as the statement gives it. -/

section Shifts

variable {s : State} {i : Instr} {rd rs1 : Reg} {w : Nat}

/-- A right shift of signed lanes: the result always fits. -/
theorem lanesSigned_of_rightShift (shift : RightShift) {n m : Nat} (hn : n = m)
    (h : exec i s = s.writeLanes rd (w + 2) fun j => shift.meaning (s.sl (w + 2) rs1 j) n) :
    LanesSigned s i rd (w + 2) fun j => shift.result (s.sl (w + 2) rs1 j) m :=
  lanesSigned_of h fun j _ => by
    obtain ⟨hge, hlt⟩ := shift.result_signed_bounds w m (s.sl (w + 2) rs1 j)
    exact ⟨by rw [shift.meaning_eq_result, hn], hge (sl_ge s (w + 1) rs1 j), hlt (sl_lt s (w + 1) rs1 j)⟩

/-- A right shift of unsigned lanes: the result always fits. -/
theorem lanesUnsigned_of_rightShift (shift : RightShift) {n m : Nat} (hn : n = m)
    (h : exec i s = s.writeLanes rd (w + 1) fun j => shift.meaning (s.ul (w + 1) rs1 j) n) :
    LanesUnsigned s i rd (w + 1) fun j => shift.result (s.ul (w + 1) rs1 j) m :=
  lanesUnsigned_of h fun j _ =>
    ⟨by rw [shift.meaning_eq_result, hn], shift.result_ge m le_rfl (ul_nonneg s (w + 1) rs1 j),
      shift.result_lt w m (ul_lt s (w + 1) rs1 j)⟩

/-- A left shift, cut to the lane's width. -/
theorem lanesMod_of_leftShift {n m : Nat} (hn : n = m)
    (h : exec i s = s.writeLanes rd w fun j => shl (s.ul w rs1 j) n) :
    LanesMod s i rd w fun j => s.ul w rs1 j * 2 ^ m :=
  lanesMod_of h fun j _ => by rw [shl, hn]

/-- A left shift, clipped to the lane's width. -/
theorem lanesSat_of_leftShift {n m : Nat} (hn : n = m)
    (h : exec i s = s.clipLanes rd (w + 1) fun j => satq w (shl (s.sl (w + 1) rs1 j) n)) :
    LanesSat s i rd (w + 1) (-2 ^ w) (2 ^ w - 1) fun j => s.sl (w + 1) rs1 j * 2 ^ m :=
  lanesSat_of le_rfl h fun j _ => by rw [shl, hn]

/-- A shift to either side by a signed amount: only to the left does it clip (rules R195, R209). -/
theorem lanesSat_of_shiftLR (shift : RightShift) {n m : Int} (hn : n = m)
    (h : exec i s = s.clipLanes rd (w + 2) fun j => shiftLR (w + 2) shift.meaning (s.sl (w + 2) rs1 j) n) :
    LanesSat s i rd (w + 2) (-2 ^ (w + 1)) (2 ^ (w + 1) - 1) fun j =>
      if m < 0 then shift.result (s.sl (w + 2) rs1 j) (min (-m).toNat (w + 1))
      else s.sl (w + 2) rs1 j * 2 ^ m.toNat :=
  lanesClip_of h fun j _ => by
    obtain ⟨hclip, hval⟩ := shiftLR_spec (w + 1) shift.meaning shift.result (s.sl (w + 2) rs1 j) m
      shift.meaning_eq_result (fun n => shift.result_signed_bounds w n _)
      (sl_ge s (w + 1) rs1 j) (sl_lt s (w + 1) rs1 j)
    have hpos : (0 : Int) < 2 ^ (w + 1) := by positivity
    rw [hn]
    exact ⟨hclip, hval, clamp_ge _ _ _ (by omega), Int.lt_of_le_sub_one (clamp_le _ _ _ (by omega))⟩

end Shifts

/-! The statements: the same kinds of shift at 8, at 16 and at 32 bits. -/

/-- Settles O36: each meaning is a plain right shift or a left shift of its lanes. -/
theorem laneShifts : Obligations.LaneShifts := by
  unfold Obligations.LaneShifts
  intro s rd rs1 rs2 imm3 imm4 imm5
  have hlow8 : s.low 3 rs2 = (s.x rs2).toNat % 8 := low_eq s 3 rs2
  have hlow16 : s.low 4 rs2 = (s.x rs2).toNat % 16 := low_eq s 4 rs2
  have hlow32 : s.low 5 rs2 = (s.x rs2).toNat % 32 := low_eq s 5 rs2
  exact ⟨lanesSigned_of_rightShift .plain hlow8 rfl, lanesSigned_of_rightShift .plain rfl rfl,
    lanesUnsigned_of_rightShift .plain hlow8 rfl, lanesUnsigned_of_rightShift .plain rfl rfl,
    lanesMod_of_leftShift hlow8 rfl, lanesMod_of_leftShift rfl rfl,
    lanesSigned_of_rightShift .plain hlow16 rfl, lanesSigned_of_rightShift .plain rfl rfl,
    lanesUnsigned_of_rightShift .plain hlow16 rfl, lanesUnsigned_of_rightShift .plain rfl rfl,
    lanesMod_of_leftShift hlow16 rfl, lanesMod_of_leftShift rfl rfl,
    lanesSigned_of_rightShift .plain hlow32 rfl, lanesSigned_of_rightShift .plain rfl rfl,
    lanesUnsigned_of_rightShift .plain hlow32 rfl, lanesUnsigned_of_rightShift .plain rfl rfl,
    lanesMod_of_leftShift hlow32 rfl, lanesMod_of_leftShift rfl rfl⟩

/-- Settles O37: each meaning is a rounding right shift of its lanes. -/
theorem roundingLaneShifts : Obligations.RoundingLaneShifts := by
  unfold Obligations.RoundingLaneShifts
  intro s rd rs1 rs2 imm3 imm4 imm5
  have hlow8 : s.low 3 rs2 = (s.x rs2).toNat % 8 := low_eq s 3 rs2
  have hlow16 : s.low 4 rs2 = (s.x rs2).toNat % 16 := low_eq s 4 rs2
  have hlow32 : s.low 5 rs2 = (s.x rs2).toNat % 32 := low_eq s 5 rs2
  exact ⟨lanesSigned_of_rightShift .rounding hlow8 rfl, lanesSigned_of_rightShift .rounding rfl rfl,
    lanesUnsigned_of_rightShift .rounding hlow8 rfl, lanesUnsigned_of_rightShift .rounding rfl rfl,
    lanesSigned_of_rightShift .rounding hlow16 rfl, lanesSigned_of_rightShift .rounding rfl rfl,
    lanesUnsigned_of_rightShift .rounding hlow16 rfl, lanesUnsigned_of_rightShift .rounding rfl rfl,
    lanesSigned_of_rightShift .rounding hlow32 rfl, lanesSigned_of_rightShift .rounding rfl rfl,
    lanesUnsigned_of_rightShift .rounding hlow32 rfl, lanesUnsigned_of_rightShift .rounding rfl rfl⟩

/-- Settles O38: each meaning is a clipped left shift of its lanes, or a shift to either side. -/
theorem saturatingLaneShifts : Obligations.SaturatingLaneShifts := by
  unfold Obligations.SaturatingLaneShifts
  intro s rd rs1 rs2 imm3 imm4 imm5
  have hlow8 : s.low 3 rs2 = (s.x rs2).toNat % 8 := low_eq s 3 rs2
  have hlow16 : s.low 4 rs2 = (s.x rs2).toNat % 16 := low_eq s 4 rs2
  have hlow32 : s.low 5 rs2 = (s.x rs2).toNat % 32 := low_eq s 5 rs2
  have hslow8 : s.slow 4 rs2 = ((s.x rs2).toNat : Int).bmod 16 := slow_eq s 4 rs2
  have hslow16 : s.slow 5 rs2 = ((s.x rs2).toNat : Int).bmod 32 := slow_eq s 5 rs2
  have hslow32 : s.slow 6 rs2 = ((s.x rs2).toNat : Int).bmod 64 := slow_eq s 6 rs2
  exact ⟨lanesSat_of_leftShift hlow8 rfl, lanesSat_of_leftShift rfl rfl,
    lanesSat_of_shiftLR .plain hslow8 rfl, lanesSat_of_shiftLR .rounding hslow8 rfl,
    lanesSat_of_leftShift hlow16 rfl, lanesSat_of_leftShift rfl rfl,
    lanesSat_of_shiftLR .plain hslow16 rfl, lanesSat_of_shiftLR .rounding hslow16 rfl,
    lanesSat_of_leftShift hlow32 rfl, lanesSat_of_leftShift rfl rfl,
    lanesSat_of_shiftLR .plain hslow32 rfl, lanesSat_of_shiftLR .rounding hslow32 rfl⟩

end Sys2Proof.Machine
end

section
/-!
The compares, minima and maxima, clips, counts, swaps and byte unpacks of lanes (43_simd_cmp_misc_unpack.md, and their
32-bit forms of 45_partial_simd_mul16.md and 49_rv64_misc_mul.md).
-/

namespace Sys2Proof.Machine

/-! Compares. -/

/-- The mask of a compare, as the lane it is written to (rule R220). -/
theorem trunc_laneMask (w : Nat) (p : Prop) [Decidable p] :
    trunc w (laneMask w (decide p)) = if p then BitVec.allOnes w else 0#w := by
  apply BitVec.eq_of_toNat_eq
  apply Int.ofNat_inj.mp
  have hpos : (0 : Int) < 2 ^ w := by positivity
  unfold laneMask
  by_cases hp : p
  · rw [decide_eq_true hp, if_pos rfl, if_pos hp, toNat_trunc_of w _ (by omega) (by omega), BitVec.toNat_allOnes,
      Int.ofNat_sub Nat.one_le_two_pow]
    push_cast
    rfl
  · rw [decide_eq_false hp, if_neg Bool.false_ne_true, if_neg hp, toNat_trunc_of w _ le_rfl hpos]
    rfl

/-- A compare of lanes, whatever the comparison. -/
theorem lanes_of_compare {s : State} {i : Instr} {rd : Reg} {w : Nat} {c : Nat → Prop} [DecidablePred c]
    (h : exec i s = s.writeLanes rd w fun j => laneMask w (decide (c j))) :
    Lanes s i rd w fun j r => r = if c j then BitVec.allOnes w else 0#w :=
  lanes_of h fun j _ => trunc_laneMask w (c j)

/-- Settles O39: each meaning writes the mask of its comparison in every lane. -/
theorem laneCompares : Obligations.LaneCompares := by
  unfold Obligations.LaneCompares
  intro s rd rs1 rs2
  exact ⟨lanes_of_compare rfl, lanes_of_compare rfl, lanes_of_compare rfl, lanes_of_compare rfl, lanes_of_compare rfl,
    lanes_of_compare rfl, lanes_of_compare rfl, lanes_of_compare rfl, lanes_of_compare rfl, lanes_of_compare rfl⟩

/-! Minimum and maximum. -/

/-- Which of two lanes an instruction keeps. -/
inductive Extremum where
  | least | greatest

namespace Extremum

/-- The lane kept, as the 8- and 16-bit meanings select it. -/
def selected : Extremum → Int → Int → Int
  | least => fun a b => if a < b then a else b
  | greatest => fun a b => if a > b then a else b

/-- The lane kept, in the terms of the 32-bit meanings and of the statements. -/
def result : Extremum → Int → Int → Int
  | least => min
  | greatest => max

theorem selected_eq_result (e : Extremum) (a b : Int) : e.selected a b = e.result a b := by
  cases e with
  | least => exact (min_def_lt a b).symm
  | greatest => exact (max_def_lt' a b).symm

theorem result_choice (e : Extremum) (a b : Int) : e.result a b = a ∨ e.result a b = b := by
  cases e with
  | least => exact min_choice a b
  | greatest => exact max_choice a b

/-- What both lanes meet, the lane kept meets. -/
theorem result_of_both (e : Extremum) {p : Int → Prop} {a b : Int} (ha : p a) (hb : p b) : p (e.result a b) := by
  obtain h | h := e.result_choice a b
  · rwa [h]
  · rwa [h]

end Extremum

section Extrema

variable {s : State} {i : Instr} {rd rs1 rs2 : Reg} {w : Nat} {g : Int → Int → Int}

theorem lanesSigned_of_extremum (e : Extremum) (hg : ∀ a b, g a b = e.result a b)
    (h : exec i s = s.writeLanes rd (w + 1) fun j => g (s.sl (w + 1) rs1 j) (s.sl (w + 1) rs2 j)) :
    LanesSigned s i rd (w + 1) fun j => e.result (s.sl (w + 1) rs1 j) (s.sl (w + 1) rs2 j) :=
  lanesSigned_of h fun j _ =>
    ⟨hg _ _, e.result_of_both (sl_ge s w rs1 j) (sl_ge s w rs2 j),
      e.result_of_both (p := (· < 2 ^ w)) (sl_lt s w rs1 j) (sl_lt s w rs2 j)⟩

theorem lanesUnsigned_of_extremum (e : Extremum) (hg : ∀ a b, g a b = e.result a b)
    (h : exec i s = s.writeLanes rd w fun j => g (s.ul w rs1 j) (s.ul w rs2 j)) :
    LanesUnsigned s i rd w fun j => e.result (s.ul w rs1 j) (s.ul w rs2 j) :=
  lanesUnsigned_of h fun j _ =>
    ⟨hg _ _, e.result_of_both (ul_nonneg s w rs1 j) (ul_nonneg s w rs2 j),
      e.result_of_both (p := (· < 2 ^ w)) (ul_lt s w rs1 j) (ul_lt s w rs2 j)⟩

end Extrema

/-- Settles O40: each meaning keeps the least or the greatest of the two lanes, which fits as both do. -/
theorem laneMinimumMaximum : Obligations.LaneMinimumMaximum := by
  unfold Obligations.LaneMinimumMaximum
  intro s rd rs1 rs2
  have hleast := Extremum.selected_eq_result .least
  have hgreatest := Extremum.selected_eq_result .greatest
  exact ⟨lanesSigned_of_extremum .least hleast rfl, lanesUnsigned_of_extremum .least hleast rfl,
    lanesSigned_of_extremum .greatest hgreatest rfl, lanesUnsigned_of_extremum .greatest hgreatest rfl,
    lanesSigned_of_extremum .least hleast rfl, lanesUnsigned_of_extremum .least hleast rfl,
    lanesSigned_of_extremum .greatest hgreatest rfl, lanesUnsigned_of_extremum .greatest hgreatest rfl,
    lanesSigned_of_extremum .least (fun _ _ => rfl) rfl, lanesUnsigned_of_extremum .least (fun _ _ => rfl) rfl,
    lanesSigned_of_extremum .greatest (fun _ _ => rfl) rfl, lanesUnsigned_of_extremum .greatest (fun _ _ => rfl) rfl⟩

section ClipsCountsMoves

variable {s : State} {i : Instr} {rd rs1 : Reg} {w : Nat}

/-! Clips and absolute values. -/

/-- A clip of signed lanes to an unsigned range that lies inside the lane's own (rule R240). -/
theorem lanesSat_of_satu {n : Nat} {f : Nat → Int} (hn : n ≤ w)
    (h : exec i s = s.clipLanes rd (w + 1) fun j => satu n (f j)) : LanesSat s i rd (w + 1) 0 (2 ^ n - 1) f :=
  lanesClip_of h fun j _ => by
    have hpos : (0 : Int) < 2 ^ n := by positivity
    have hle : (2 : Int) ^ n ≤ 2 ^ w := pow_le_pow_right₀ (by norm_num) hn
    have hge := clamp_ge 0 (2 ^ n - 1) (f j) (by omega)
    have hlt := clamp_le 0 (2 ^ n - 1) (f j) (by omega)
    exact ⟨satu_clip n _, satu_val n _, by omega, by omega⟩

/-- The saturating absolute value (rule R241). -/
theorem lanesSat_of_abs (h : exec i s = s.clipLanes rd (w + 1) fun j => satq w (iabs (s.sl (w + 1) rs1 j))) :
    LanesSat s i rd (w + 1) (-2 ^ w) (2 ^ w - 1) fun j => |s.sl (w + 1) rs1 j| :=
  lanesSat_of le_rfl h fun _ _ => iabs_eq _

/-! Counts. -/

/-- A count of bits of each lane: it is at most w, so the lane of the result holds it. -/
theorem lanes_of_count {count : BitVec w → Int} {p : BitVec w → Nat → Prop}
    (hcount : ∀ v, ∃ n : Nat, count v = n ∧ p v n) (hle : ∀ v n, p v n → n ≤ w)
    (h : exec i s = s.writeLanes rd w fun j => count (lane w (s.x rs1) j)) :
    Lanes s i rd w fun j r => p (lane w (s.x rs1) j) r.toNat :=
  lanes_of h fun j _ => by
    obtain ⟨n, hn, hp⟩ := hcount (lane w (s.x rs1) j)
    have hlt : n < 2 ^ w := lt_of_le_of_lt (hle _ n hp) Nat.lt_two_pow_self
    have hread : (trunc w (n : Int)).toNat = n :=
      Int.ofNat_inj.mp (toNat_trunc_of w n (Int.natCast_nonneg n) (by exact_mod_cast hlt))
    rwa [hn, hread]

/-- Leading zeros (rules R243, R258, R343). -/
theorem lanes_of_clz (h : exec i s = s.writeLanes rd w fun j => clzOf (lane w (s.x rs1) j)) :
    Lanes s i rd w fun j r => LeadingZeros (lane w (s.x rs1) j) r.toNat :=
  lanes_of_count clzOf_spec (fun _ _ ⟨hle, _⟩ => hle) h

/-- Redundant sign bits (rules R242, R257, R344). -/
theorem lanes_of_clrs (hw : 0 < w) (h : exec i s = s.writeLanes rd w fun j => clrsOf (lane w (s.x rs1) j)) :
    Lanes s i rd w fun j r => RedundantSigns (lane w (s.x rs1) j) r.toNat :=
  lanes_of_count (fun v => clrsOf_spec v hw) (fun _ _ ⟨hlt, _⟩ => hlt.le) h

/-! Swaps and unpacks. -/

/-- The two lanes of each pair exchanged (rules R244, R259). -/
theorem lanes_of_partner (h : exec i s = s.writeLanes rd w fun j => s.ul w rs1 (partner j)) :
    Lanes s i rd w fun j r => r = lane w (s.x rs1) (topBottom j (j - 1) (j + 1)) :=
  lanes_of h fun j _ => by rw [State.ul, trunc_uval, partner_eq_topBottom]

theorem unpackByte_eq_topBottom (p q j : Nat) : unpackByte p q j = 4 * (j / 2) + topBottom j p q := rfl

/-- A byte sign-extended to a halfword keeps its signed value (rules R260 to R264). -/
theorem lanesSigned_of_unpackByte (p q : Nat)
    (h : exec i s = s.writeLanes rd 16 fun j => s.sl 8 rs1 (unpackByte p q j)) :
    LanesSigned s i rd 16 fun j => s.sl 8 rs1 (4 * (j / 2) + topBottom j p q) :=
  lanesSigned_of h fun j _ => by
    have hge : -2 ^ 7 ≤ s.sl 8 rs1 (unpackByte p q j) := sl_ge s 7 rs1 _
    have hlt : s.sl 8 rs1 (unpackByte p q j) < 2 ^ 7 := sl_lt s 7 rs1 _
    rw [← unpackByte_eq_topBottom]
    exact ⟨rfl, by omega, by omega⟩

/-- A byte zero-extended to a halfword keeps its unsigned value (rules R265 to R269). -/
theorem lanesUnsigned_of_unpackByte (p q : Nat)
    (h : exec i s = s.writeLanes rd 16 fun j => s.ul 8 rs1 (unpackByte p q j)) :
    LanesUnsigned s i rd 16 fun j => s.ul 8 rs1 (4 * (j / 2) + topBottom j p q) :=
  lanesUnsigned_of h fun j _ => by
    have hlt := ul_lt s 8 rs1 (unpackByte p q j)
    rw [← unpackByte_eq_topBottom]
    exact ⟨rfl, ul_nonneg s 8 rs1 _, by omega⟩

end ClipsCountsMoves

/-- Settles O41: each meaning is a clip to a range within the lane's own, or the clipped absolute value. -/
theorem laneClipsAndAbsolute : Obligations.LaneClipsAndAbsolute := by
  unfold Obligations.LaneClipsAndAbsolute
  intro s rd rs1 imm3 imm4 imm5
  have himm3 : imm3.toNat ≤ 7 := Nat.le_of_lt_succ imm3.isLt
  have himm4 : imm4.toNat ≤ 15 := Nat.le_of_lt_succ imm4.isLt
  have himm5 : imm5.toNat ≤ 31 := Nat.le_of_lt_succ imm5.isLt
  exact ⟨lanesSat_of himm3 rfl fun _ _ => rfl, lanesSat_of_satu himm3 rfl, lanesSat_of_abs rfl,
    lanesSat_of himm4 rfl fun _ _ => rfl, lanesSat_of_satu himm4 rfl, lanesSat_of_abs rfl,
    lanesSat_of himm5 rfl fun _ _ => rfl, lanesSat_of_satu himm5 rfl, lanesSat_of_abs rfl⟩

/-- Settles O42: each meaning writes the count that `clzOf` or `clrsOf` makes of the lane. -/
theorem laneBitCounts : Obligations.LaneBitCounts := by
  unfold Obligations.LaneBitCounts
  intro s rd rs1
  exact ⟨lanes_of_clz rfl, lanes_of_clrs (by decide) rfl, lanes_of_clz rfl, lanes_of_clrs (by decide) rfl,
    lanes_of_clz rfl, lanes_of_clrs (by decide) rfl⟩

/-- Settles O43: each meaning moves lanes, to the partner's place or from bytes to halfwords. -/
theorem swapsAndUnpacks : Obligations.SwapsAndUnpacks := by
  unfold Obligations.SwapsAndUnpacks
  intro s rd rs1
  exact ⟨lanes_of_partner rfl, lanes_of_partner rfl,
    lanesSigned_of_unpackByte 1 0 rfl, lanesUnsigned_of_unpackByte 1 0 rfl,
    lanesSigned_of_unpackByte 2 0 rfl, lanesUnsigned_of_unpackByte 2 0 rfl,
    lanesSigned_of_unpackByte 3 0 rfl, lanesUnsigned_of_unpackByte 3 0 rfl,
    lanesSigned_of_unpackByte 3 1 rfl, lanesUnsigned_of_unpackByte 3 1 rfl,
    lanesSigned_of_unpackByte 3 2 rfl, lanesUnsigned_of_unpackByte 3 2 rfl⟩

end Sys2Proof.Machine
end

section
/-!
The products of lanes, the packs of halves and the most significant word multiplies (44_simd_mul_pack_msw.md), with
the packs of words and the saturating halfword multiplies of 49_rv64_misc_mul.md.
-/

namespace Sys2Proof.Machine

/-! Products of lanes. -/

theorem signed_product_bounds (w : Nat) {a b : Int} (ha : -2 ^ w ≤ a ∧ a < 2 ^ w) (hb : -2 ^ w ≤ b ∧ b < 2 ^ w) :
    -2 ^ (w + w + 1) ≤ a * b ∧ a * b < 2 ^ (w + w + 1) := by
  obtain ⟨hge, hle⟩ := mul_bounds_mixed (2 ^ w) (2 ^ w) a b ha.1 ha.2 hb.1 hb.2
  have hpos : (0 : Int) < 2 ^ w * 2 ^ w := by positivity
  have hdouble : (2 : Int) ^ (w + w + 1) = 2 * (2 ^ w * 2 ^ w) := by ring
  omega

theorem unsigned_product_bounds (w : Nat) {a b : Int} (ha : 0 ≤ a ∧ a < 2 ^ w) (hb : 0 ≤ b ∧ b < 2 ^ w) :
    0 ≤ a * b ∧ a * b < 2 ^ (w + w) := by
  rw [pow_add]
  exact ⟨mul_nonneg ha.1 hb.1, mul_lt_mul'' ha.2 hb.2 ha.1 hb.1⟩

/-- A product doubled by a shift (rules R512 to R517). -/
theorem shl_one (k : Int) : shl k 1 = k * 2 := by rw [shl, pow_one]

/-! In each lemma `place j` is the lane of `x[rs2]` that lane j of `x[rs1]` is multiplied by, in the terms of the
meaning, and `place' j` in those of the statement. -/

section Products

variable {s : State} {i : Instr} {rd rs1 rs2 : Reg} {place place' : Nat → Nat}

/-- Signed products fit in lanes twice as wide. -/
theorem lanes64Signed_of_product (w : Nat) (hplace : ∀ j, place j = place' j)
    (h : exec i s = s.write64Lanes rd (w + w + 2) fun j => s.sl (w + 1) rs1 j * s.sl (w + 1) rs2 (place j)) :
    Lanes64Signed s i rd (w + w + 2) fun j => s.sl (w + 1) rs1 j * s.sl (w + 1) rs2 (place' j) :=
  lanes64Signed_of h fun j _ =>
    ⟨by rw [hplace], signed_product_bounds w ⟨sl_ge s w rs1 _, sl_lt s w rs1 _⟩ ⟨sl_ge s w rs2 _, sl_lt s w rs2 _⟩⟩

/-- Unsigned products fit in lanes twice as wide. -/
theorem lanes64Unsigned_of_product (w : Nat) (hplace : ∀ j, place j = place' j)
    (h : exec i s = s.write64Lanes rd (w + w) fun j => s.ul w rs1 j * s.ul w rs2 (place j)) :
    Lanes64Unsigned s i rd (w + w) fun j => s.ul w rs1 j * s.ul w rs2 (place' j) :=
  lanes64Unsigned_of h fun j _ =>
    ⟨by rw [hplace],
      unsigned_product_bounds w ⟨ul_nonneg s w rs1 _, ul_lt s w rs1 _⟩ ⟨ul_nonneg s w rs2 _, ul_lt s w rs2 _⟩⟩

/-- The Q7 and Q15 products of lanes, clipped to the lane (rules R274, R275, R280, R281). -/
theorem lanesSat_of_fractionalProduct (w : Nat) (hplace : ∀ j, place j = place' j)
    (h : exec i s = s.clipLanes rd (w + 1) fun j =>
      satq w (asr (s.sl (w + 1) rs1 j * s.sl (w + 1) rs2 (place j)) w)) :
    LanesSat s i rd (w + 1) (-2 ^ w) (2 ^ w - 1) fun j =>
      s.sl (w + 1) rs1 j * s.sl (w + 1) rs2 (place' j) / 2 ^ w :=
  lanesSat_of le_rfl h fun j _ => by rw [asr, hplace]

end Products

/-- Settles O44: the exact products of lanes, in place or crossed, fit in the lanes twice as wide. -/
theorem laneProducts64 : Obligations.LaneProducts64 := by
  unfold Obligations.LaneProducts64
  intro s rd rs1 rs2
  have hstraight (j : Nat) : j = j := rfl
  have hcrossed := partner_eq_topBottom
  exact ⟨lanes64Signed_of_product 15 hstraight rfl, lanes64Signed_of_product 15 hcrossed rfl,
    lanes64Unsigned_of_product 16 hstraight rfl, lanes64Unsigned_of_product 16 hcrossed rfl,
    lanes64Signed_of_product 7 hstraight rfl, lanes64Signed_of_product 7 hcrossed rfl,
    lanes64Unsigned_of_product 8 hstraight rfl, lanes64Unsigned_of_product 8 hcrossed rfl⟩

/-! Packs of halves. -/

/-- The half of a word (or of an RV64 register) that a pack takes: B or T in its name. -/
inductive PackHalf where
  | bottom | top

namespace PackHalf

/-- The lane that is this half of the double lane k. -/
def ofDouble : PackHalf → Nat → Nat
  | bottom, k => 2 * k
  | top, k => 2 * k + 1

/-- The lane that is this half of the double lane whose top lane is j. -/
def fromTop : PackHalf → Nat → Nat
  | bottom, j => j - 1
  | top, j => j

/-- The lane that is this half of the double lane whose bottom lane is j. -/
def fromBottom : PackHalf → Nat → Nat
  | bottom, j => j
  | top, j => j + 1

theorem ofDouble_half_of_odd (x : PackHalf) {j : Nat} (hj : j % 2 = 1) : x.ofDouble (j / 2) = x.fromTop j := by
  cases x with
  | bottom | top => simp only [ofDouble, fromTop]; omega

theorem ofDouble_half_of_even (x : PackHalf) {j : Nat} (hj : ¬j % 2 = 1) : x.ofDouble (j / 2) = x.fromBottom j := by
  cases x with
  | bottom | top => simp only [ofDouble, fromBottom]; omega

/-- A pack by double lanes, as the meanings give it, is a pack by lanes, as the statements give it. -/
theorem topBottom_ofDouble {α : Type} (x y : PackHalf) (f g : Nat → α) (j : Nat) :
    topBottom j (f (x.ofDouble (j / 2))) (g (y.ofDouble (j / 2))) =
      topBottom j (f (x.fromTop j)) (g (y.fromBottom j)) := by
  unfold topBottom
  split
  · rw [x.ofDouble_half_of_odd ‹_›]
  · rw [y.ofDouble_half_of_even ‹_›]

end PackHalf

section Packs

variable {s : State} {i : Instr} {rd rs1 rs2 : Reg}

theorem Lanes.imp {w : Nat} {p q : Nat → BitVec w → Prop} (hpq : ∀ j, j < s.lanes w → ∀ r, p j r → q j r)
    (h : Lanes s i rd w p) : Lanes s i rd w q := by
  obtain ⟨t, he, hframe, hkept, hlanes⟩ := h
  exact ⟨t, he, hframe, hkept, fun h0 j hj => hpq j hj _ (hlanes h0 j hj)⟩

/-- The halfwords of each word (rules R282 to R285). -/
theorem lanes_of_pack16 (x y : PackHalf)
    (h : exec i s = s.writeLanes rd 32 fun j => join 16 (s.ul 16 rs1 (x.ofDouble j)) (s.ul 16 rs2 (y.ofDouble j))) :
    Lanes s i rd 16 fun j r =>
      r = topBottom j (lane 16 (s.x rs1) (x.fromTop j)) (lane 16 (s.x rs2) (y.fromBottom j)) :=
  (lanes16_of_words h).imp fun j _ _ hr =>
    hr.trans (x.topBottom_ofDouble y (lane 16 (s.x rs1)) (lane 16 (s.x rs2)) j)

/-- The words of an RV64 register (rules R541 to R544). -/
theorem lanes_of_pack32 (x y : PackHalf) (hx : s.cfg.xlen = .rv64)
    (h : exec i s = s.writeX rd (join 32 (s.ul 32 rs1 (x.ofDouble 0)) (s.ul 32 rs2 (y.ofDouble 0)))) :
    Lanes s i rd 32 fun j r =>
      r = topBottom j (lane 32 (s.x rs1) (x.fromTop j)) (lane 32 (s.x rs2) (y.fromBottom j)) :=
  (lanes32_of_join hx h).imp fun j hj r hr => by
    have htwo : s.lanes 32 = 2 := by rw [State.lanes, xlen_of_rv64 hx]
    have hzero : j / 2 = 0 := by omega
    rw [hr, ← x.topBottom_ofDouble y (lane 32 (s.x rs1)) (lane 32 (s.x rs2)) j, hzero]

end Packs

/-- Settles O46: each meaning joins two halves of each word, or of the RV64 register. -/
theorem lanePacks : Obligations.LanePacks := by
  unfold Obligations.LanePacks
  intro s rd rs1 rs2
  exact ⟨lanes_of_pack16 .bottom .bottom rfl, lanes_of_pack16 .bottom .top rfl,
    lanes_of_pack16 .top .top rfl, lanes_of_pack16 .top .bottom rfl,
    fun hx => lanes_of_pack32 .bottom .bottom hx rfl, fun hx => lanes_of_pack32 .bottom .top hx rfl,
    fun hx => lanes_of_pack32 .top .top hx rfl, fun hx => lanes_of_pack32 .top .bottom hx rfl⟩

/-! High parts of products. -/

/-- A number within ±A·2^n lies within ±A when shifted right by n: rounding to nearest keeps the bounds as well. -/
theorem RightShift.result_scaled_bounds (shift : RightShift) {A k : Int} {n : Nat} (hge : -(A * 2 ^ n) ≤ k)
    (hle : k ≤ A * 2 ^ n) : -A ≤ shift.result k n ∧ shift.result k n ≤ A := by
  have hpos : (0 : Int) < 2 ^ n := by positivity
  cases shift with
  | plain =>
    exact ⟨Int.le_ediv_of_mul_le hpos (by rwa [neg_mul]), Int.ediv_le_of_le_mul hpos hle⟩
  | rounding =>
    refine ⟨Int.le_ediv_of_mul_le hpos ?_, Int.le_of_lt_add_one (Int.ediv_lt_of_lt_mul hpos ?_)⟩
    · rw [neg_mul]
      omega
    · rw [add_mul, one_mul]
      omega

theorem word_product_bounds (s : State) (r1 r2 : Reg) (j : Nat) :
    -(2 ^ 30 * 2 ^ 32) ≤ s.sl 32 r1 j * s.sl 32 r2 j ∧ s.sl 32 r1 j * s.sl 32 r2 j ≤ 2 ^ 30 * 2 ^ 32 := by
  obtain ⟨hge1, hlt1⟩ := word_range s r1 j
  obtain ⟨hge2, hlt2⟩ := word_range s r2 j
  exact mul_bounds_mixed (2 ^ 31) (2 ^ 31) _ _ hge1 hlt1 hge2 hlt2

/-- The product of a word and a halfword has 48 bits (rules R298 to R301). -/
theorem word_half_product_bounds (s : State) (r : Reg) (j : Nat) {k : Int} (hk : -2 ^ 15 ≤ k ∧ k < 2 ^ 15) :
    -(2 ^ 30 * 2 ^ 16) ≤ s.sl 32 r j * k ∧ s.sl 32 r j * k ≤ 2 ^ 30 * 2 ^ 16 := by
  obtain ⟨hge, hlt⟩ := word_range s r j
  exact mul_bounds_mixed (2 ^ 31) (2 ^ 15) _ _ hge hlt hk.1 hk.2

/-! In each lemma `p j` is the product in lane j. -/

section HighParts

variable {s : State} {i : Instr} {rd : Reg} {p : Nat → Int} {w n : Nat}

/-- The high part of the product, which fits in the word. -/
theorem lanesSigned_of_highPart (shift : RightShift) (hp : ∀ j, -(2 ^ 30 * 2 ^ n) ≤ p j ∧ p j ≤ 2 ^ 30 * 2 ^ n)
    (h : exec i s = s.writeLanes rd 32 fun j => shift.meaning (p j) n) :
    LanesSigned s i rd 32 fun j => shift.result (p j) n :=
  lanesSigned_of h fun j _ => by
    obtain ⟨hge, hle⟩ := shift.result_scaled_bounds (hp j).1 (hp j).2
    exact ⟨shift.meaning_eq_result _ _, by omega, by omega⟩

/-- The high part of the product, clipped to m + 1 bits. -/
theorem lanesSat_of_highPart (shift : RightShift) {m : Nat} (hm : m ≤ w)
    (h : exec i s = s.clipLanes rd (w + 1) fun j => satq m (shift.meaning (p j) n)) :
    LanesSat s i rd (w + 1) (-2 ^ m) (2 ^ m - 1) fun j => shift.result (p j) n :=
  lanesSat_of hm h fun _ _ => shift.meaning_eq_result _ _

/-- The high part of the product, added to the lane of `rd` and clipped. -/
theorem lanesSat_of_addedHighPart (shift : RightShift)
    (h : exec i s = s.clipLanes rd (w + 1) fun j => satq w (s.sl (w + 1) rd j + shift.meaning (p j) n)) :
    LanesSat s i rd (w + 1) (-2 ^ w) (2 ^ w - 1) fun j => s.sl (w + 1) rd j + shift.result (p j) n :=
  lanesSat_of le_rfl h fun _ _ => by rw [shift.meaning_eq_result]

/-- The high part of the product, subtracted from the lane of `rd` and clipped. -/
theorem lanesSat_of_subtractedHighPart (shift : RightShift)
    (h : exec i s = s.clipLanes rd (w + 1) fun j => satq w (s.sl (w + 1) rd j - shift.meaning (p j) n)) :
    LanesSat s i rd (w + 1) (-2 ^ w) (2 ^ w - 1) fun j => s.sl (w + 1) rd j - shift.result (p j) n :=
  lanesSat_of le_rfl h fun _ _ => by rw [shift.meaning_eq_result]

/-- A clipped value added to the lane of `rd` and clipped again (rule R584); `m j` is the value in the terms of the
meaning, and `p j` in those of the statement. -/
theorem lanesClip_of_twiceClipped {m : Nat → Int} (hm : ∀ j, m j = p j)
    (h : exec i s = s.clipLanes rd (w + 1) fun j => (satq w (m j)).andThen fun t => satq w (s.sl (w + 1) rd j + t)) :
    LanesClip s i rd (w + 1)
      (fun j => outside (-2 ^ w) (2 ^ w - 1) (p j) ∨
        outside (-2 ^ w) (2 ^ w - 1) (s.sl (w + 1) rd j + clamp (-2 ^ w) (2 ^ w - 1) (p j)))
      (fun j => clamp (-2 ^ w) (2 ^ w - 1) (s.sl (w + 1) rd j + clamp (-2 ^ w) (2 ^ w - 1) (p j))) :=
  lanesClip_of h fun j _ => by
    rw [hm]
    exact twice_clipped w (p j) (s.sl (w + 1) rd j)

end HighParts

/-- Settles O45: each meaning clips the high part of a product, or a doubled product. -/
theorem saturatingLaneProducts : Obligations.SaturatingLaneProducts := by
  unfold Obligations.SaturatingLaneProducts
  intro s rd rs1 rs2
  have hstraight (j : Nat) : j = j := rfl
  have hcrossed := partner_eq_topBottom
  have hfits : 15 ≤ 31 := by decide
  exact ⟨lanesSat_of_fractionalProduct 15 hstraight rfl, lanesSat_of_fractionalProduct 15 hcrossed rfl,
    lanesSat_of_fractionalProduct 7 hstraight rfl, lanesSat_of_fractionalProduct 7 hcrossed rfl,
    lanesSat_of_highPart .plain hfits rfl, lanesSat_of le_rfl rfl fun _ _ => shl_one _,
    lanesSat_of_highPart .plain hfits rfl, lanesSat_of le_rfl rfl fun _ _ => shl_one _,
    lanesSat_of_highPart .plain hfits rfl, lanesSat_of le_rfl rfl fun _ _ => shl_one _⟩

/-- Settles O47: each meaning writes the high part of a product of 64 or of 48 bits, which fits. -/
theorem mostSignificantWordProducts : Obligations.MostSignificantWordProducts := by
  unfold Obligations.MostSignificantWordProducts
  intro s rd rs1 rs2
  have hword := word_product_bounds s rs1 rs2
  have hbot (j : Nat) := word_half_product_bounds s rs1 j (half_range s rs2 j).1
  have htop (j : Nat) := word_half_product_bounds s rs1 j (half_range s rs2 j).2
  exact ⟨lanesSigned_of_highPart .plain hword rfl, lanesSigned_of_highPart .plain hword rfl,
    lanesSigned_of_highPart .rounding hword rfl,
    lanesSigned_of_highPart .plain hbot rfl, lanesSigned_of_highPart .rounding hbot rfl,
    lanesSigned_of_highPart .plain htop rfl, lanesSigned_of_highPart .rounding htop rfl⟩

/-- Settles O48: each meaning clips a high part, alone, added to the word of `rd` or subtracted from it. -/
theorem saturatingMostSignificantWord : Obligations.SaturatingMostSignificantWord := by
  unfold Obligations.SaturatingMostSignificantWord
  intro s rd rs1 rs2
  exact ⟨lanesSat_of_addedHighPart .plain rfl, lanesSat_of_addedHighPart .rounding rfl,
    lanesSat_of_subtractedHighPart .plain rfl, lanesSat_of_subtractedHighPart .rounding rfl,
    lanesSat_of_highPart .plain le_rfl rfl, lanesSat_of_highPart .rounding le_rfl rfl,
    lanesSat_of_addedHighPart .plain rfl, lanesSat_of_highPart .plain le_rfl rfl,
    lanesSat_of_addedHighPart .rounding rfl, lanesSat_of_highPart .rounding le_rfl rfl,
    lanesSat_of_addedHighPart .plain rfl, lanesSat_of_highPart .plain le_rfl rfl,
    lanesSat_of_addedHighPart .rounding rfl, lanesSat_of_highPart .rounding le_rfl rfl⟩

/-- Settles O49: each meaning clips a high part or a doubled product, adds it to the word of `rd` and clips again. -/
theorem twiceSaturatingAccumulates : Obligations.TwiceSaturatingAccumulates := by
  unfold Obligations.TwiceSaturatingAccumulates
  intro s rd rs1 rs2
  have hplain (p : Nat → Int) (j : Nat) := RightShift.plain.meaning_eq_result (p j) 15
  have hrounding (p : Nat → Int) (j : Nat) := RightShift.rounding.meaning_eq_result (p j) 15
  have hdoubled (p : Nat → Int) (j : Nat) := shl_one (p j)
  exact ⟨lanesClip_of_twiceClipped (hplain _) rfl, lanesClip_of_twiceClipped (hrounding _) rfl,
    lanesClip_of_twiceClipped (hplain _) rfl, lanesClip_of_twiceClipped (hrounding _) rfl,
    lanesClip_of_twiceClipped (hdoubled _) rfl, lanesClip_of_twiceClipped (hdoubled _) rfl,
    lanesClip_of_twiceClipped (hdoubled _) rfl⟩

end Sys2Proof.Machine
end

section
/-!
The halfword products and their sums in each word, the sums over bytes (45_partial_simd_mul16.md), and the 16-bit
multiplies with 64-bit accumulators, SMAL among them (46_64bit_profile.md).
-/

namespace Sys2Proof.Machine

/-! Products of the halfwords of a word. -/

/-- The half x of each word of `x[r]`, read as signed: B or T in the names of the multiplies. -/
def PackHalf.ofWord : PackHalf → State → Reg → Nat → Int
  | bottom => State.bot
  | top => State.top

theorem PackHalf.ofWord_range (x : PackHalf) (s : State) (r : Reg) (j : Nat) :
    -2 ^ 15 ≤ x.ofWord s r j ∧ x.ofWord s r j < 2 ^ 15 := by
  obtain ⟨hbot, htop⟩ := half_range s r j
  cases x with
  | bottom => exact hbot
  | top => exact htop

/-- The product of the half x of word j of `x[rs1]` and the half y of word j of `x[rs2]`. -/
def halfProduct (x y : PackHalf) (s : State) (rs1 rs2 : Reg) (j : Nat) : Int := x.ofWord s rs1 j * y.ofWord s rs2 j

/-- The two ends are not symmetric: only -2^15 times itself reaches 2^30. -/
theorem halfProduct_bounds (x y : PackHalf) (s : State) (rs1 rs2 : Reg) (j : Nat) :
    -(2 ^ 15 * (2 ^ 15 - 1)) ≤ halfProduct x y s rs1 rs2 j ∧ halfProduct x y s rs1 rs2 j ≤ 2 ^ 15 * 2 ^ 15 := by
  obtain ⟨hge1, hlt1⟩ := x.ofWord_range s rs1 j
  obtain ⟨hge2, hlt2⟩ := y.ofWord_range s rs2 j
  exact mul_bounds (2 ^ 15) _ _ (by positivity) hge1 hlt1 hge2 hlt2

section HalfProducts

variable {s : State} {i : Instr} {rd rs1 rs2 : Reg}

/-- A product of halfwords fits in the word. -/
theorem lanesSigned_of_halfProduct (x y : PackHalf)
    (h : exec i s = s.writeLanes rd 32 (halfProduct x y s rs1 rs2)) :
    LanesSigned s i rd 32 (halfProduct x y s rs1 rs2) :=
  lanesSigned_of h fun j _ => by
    obtain ⟨hge, hle⟩ := halfProduct_bounds x y s rs1 rs2 j
    exact ⟨rfl, by omega, by omega⟩

/-- The difference of two products of halfwords fits in the word, as their sum does not. -/
theorem lanesSigned_of_halfProductDifference (x y x' y' : PackHalf)
    (h : exec i s = s.writeLanes rd 32 fun j => halfProduct x y s rs1 rs2 j - halfProduct x' y' s rs1 rs2 j) :
    LanesSigned s i rd 32 fun j => halfProduct x y s rs1 rs2 j - halfProduct x' y' s rs1 rs2 j :=
  lanesSigned_of h fun j _ => by
    obtain ⟨hge, hle⟩ := halfProduct_bounds x y s rs1 rs2 j
    obtain ⟨hge', hle'⟩ := halfProduct_bounds x' y' s rs1 rs2 j
    exact ⟨rfl, by omega, by omega⟩

/-- A sum that is clipped once to the lane. -/
theorem lanesSat_of_clippedOnce {w : Nat} {f : Nat → Int}
    (h : exec i s = s.clipLanes rd (w + 1) fun j => satq w (f j)) :
    LanesSat s i rd (w + 1) (-2 ^ w) (2 ^ w - 1) f :=
  lanesSat_of le_rfl h fun _ _ => rfl

end HalfProducts

/-- Settles O50: a product of halfwords, and a difference of two, fits in the word; every other sum is clipped once. -/
theorem halfwordProducts : Obligations.HalfwordProducts := by
  unfold Obligations.HalfwordProducts
  intro s rd rs1 rs2
  exact ⟨lanesSigned_of_halfProduct .bottom .bottom rfl, lanesSigned_of_halfProduct .bottom .top rfl,
    lanesSigned_of_halfProduct .top .top rfl,
    lanesSigned_of_halfProductDifference .top .top .bottom .bottom rfl,
    lanesSigned_of_halfProductDifference .bottom .bottom .top .top rfl,
    lanesSigned_of_halfProductDifference .top .bottom .bottom .top rfl,
    lanesSat_of_clippedOnce rfl, lanesSat_of_clippedOnce rfl,
    lanesSat_of_clippedOnce rfl, lanesSat_of_clippedOnce rfl, lanesSat_of_clippedOnce rfl,
    lanesSat_of_clippedOnce rfl, lanesSat_of_clippedOnce rfl, lanesSat_of_clippedOnce rfl,
    lanesSat_of_clippedOnce rfl, lanesSat_of_clippedOnce rfl, lanesSat_of_clippedOnce rfl,
    lanesSat_of_clippedOnce rfl⟩

/-! Sums over bytes. -/

theorem byteDiffs_eq (s : State) (r1 r2 : Reg) :
    s.byteDiffs r1 r2 = ((List.range (s.lanes 8)).map fun j => |s.ul 8 r1 j - s.ul 8 r2 j|).sum := by
  simp only [State.byteDiffs, sumOver_eq, iabs_eq]

theorem sumOver_four (f : Nat → Int) : sumOver 4 f = f 0 + f 1 + f 2 + f 3 := by
  simp only [sumOver, zero_add]

section ByteSums

variable {s : State} {i : Instr} {rd : Reg}

/-- A number cut to 64 bits is the same number modulo 2^XLEN (rule R20). -/
theorem unsignedMod_of_writeX {k f : Int} (hk : k = f) (h : exec i s = s.writeX rd k) : UnsignedMod s i rd f :=
  unsignedMod_of h (by rw [toNat_trunc, hk, Int.emod_emod_of_dvd _ (two_pow_xlen_dvd s)])

/-! In each lemma `a k * b k` is the product of byte k of the sources. -/

theorem lanesMod_of_addedBytes {a b : Nat → Int}
    (h : exec i s = s.writeLanes rd 32 fun j =>
      s.ul 32 rd j + sumOver 4 fun k => a (4 * j + k) * b (4 * j + k)) :
    LanesMod s i rd 32 fun j => s.ul 32 rd j + a (4 * j) * b (4 * j) + a (4 * j + 1) * b (4 * j + 1) +
      a (4 * j + 2) * b (4 * j + 2) + a (4 * j + 3) * b (4 * j + 3) :=
  lanesMod_of h fun j _ => by simp only [sumOver_four, add_zero, add_assoc]

/-- Modulo 2^32 it is the same whether the word of `rd` is read as signed or as unsigned. -/
theorem lanesMod_of_signedAddedBytes {a b : Nat → Int}
    (h : exec i s = s.writeLanes rd 32 fun j =>
      s.sl 32 rd j + sumOver 4 fun k => a (4 * j + k) * b (4 * j + k)) :
    LanesMod s i rd 32 fun j => s.ul 32 rd j + a (4 * j) * b (4 * j) + a (4 * j + 1) * b (4 * j + 1) +
      a (4 * j + 2) * b (4 * j + 2) + a (4 * j + 3) * b (4 * j + 3) :=
  lanesMod_of h fun j _ => by rw [sl_emod_add]; simp only [sumOver_four, add_zero, add_assoc]

end ByteSums

/-- Settles O51: each meaning is the sum of the statement, read modulo the width of the destination. -/
theorem byteSums : Obligations.ByteSums := by
  unfold Obligations.ByteSums
  intro s rd rs1 rs2
  have hdiffs := byteDiffs_eq s rs1 rs2
  exact ⟨unsignedMod_of_writeX hdiffs rfl, unsignedMod_of_writeX (congrArg (s.ux rd + ·) hdiffs) rfl,
    lanesMod_of_signedAddedBytes rfl, lanesMod_of_addedBytes rfl, lanesMod_of_signedAddedBytes rfl⟩

/-! Sums over words with a 64-bit operand. -/

theorem wordSum_eq (s : State) (f : Nat → Int) : s.wordSum f = overWords s f := sumOver_eq _ f

section WordSums

variable {s : State} {i : Instr} {rd acc : Reg} {p : Nat → Int}

/-- Modulo 2^64 it is the same whether the operand `acc` is read as signed or as unsigned. -/
theorem mod64_of_addedWords (h : exec i s = s.write64 rd (sval (s.x64 acc) + s.wordSum p)) :
    Mod64 s i rd (uval (s.x64 acc) + overWords s p) :=
  mod64_of h (by rw [sval_add_emod, wordSum_eq])

theorem mod64_of_subtractedWords (h : exec i s = s.write64 rd (sval (s.x64 acc) - s.wordSum p)) :
    Mod64 s i rd (uval (s.x64 acc) - overWords s p) :=
  mod64_of h (by rw [sub_eq_add_neg, sval_add_emod, wordSum_eq, ← sub_eq_add_neg])

end WordSums

/-- Settles O54: each meaning adds a sum over the words to a 64-bit operand, or subtracts it. -/
theorem halfwordMultipliesTo64 : Obligations.HalfwordMultipliesTo64 := by
  unfold Obligations.HalfwordMultipliesTo64
  intro s rd rs1 rs2
  exact ⟨mod64_of_addedWords rfl, mod64_of_addedWords rfl, mod64_of_addedWords rfl, mod64_of_addedWords rfl,
    mod64_of_addedWords rfl, mod64_of_addedWords rfl, mod64_of_addedWords rfl, mod64_of_addedWords rfl,
    mod64_of_addedWords rfl, mod64_of_subtractedWords rfl, mod64_of_subtractedWords rfl⟩

end Sys2Proof.Machine
end

section
/-!
The 64-bit additions and subtractions (46_64bit_profile.md), and the 32-bit multiplies with 64-bit results, MULR64 and
MULSR64 of 47_nonsimd.md among them.
-/

namespace Sys2Proof.Machine

section Operands64

variable {s : State} {i : Instr} {rd rs1 rs2 : Reg} {k : Int}

theorem mod64_of_write64 {f : Int} (hk : k = f) (h : exec i s = s.write64 rd k) : Mod64 s i rd f :=
  mod64_of h (by rw [hk])

theorem sval_bounds (v : XWord) : -2 ^ 63 ≤ sval v ∧ sval v < 2 ^ 63 := ⟨BitVec.le_toInt v, BitVec.toInt_lt⟩

/-- Half the sum or the difference of two signed 64-bit operands always fits (rules R363, R368). -/
theorem signed64_of_halved (hk : SumOrDifference (sval (s.x64 rs1)) (fun _ => sval (s.x64 rs2)) k)
    (h : exec i s = s.write64 rd (halve k)) : Signed64 s i rd (k / 2) := by
  obtain ⟨hge, hlt⟩ := half_bounds hk (sval_bounds _) fun _ => sval_bounds _
  exact signed64_of h (halve_eq k) hge hlt

/-- The product of two signed words always fits (rule R431). -/
theorem signed64_of_wordProduct {j : Nat} (h : exec i s = s.write64 rd (s.sl 32 rs1 j * s.sl 32 rs2 j)) :
    Signed64 s i rd (s.sl 32 rs1 j * s.sl 32 rs2 j) := by
  obtain ⟨hge, hlt⟩ := signed_product_bounds 31 ⟨sl_ge s 31 rs1 j, sl_lt s 31 rs1 j⟩
    ⟨sl_ge s 31 rs2 j, sl_lt s 31 rs2 j⟩
  exact signed64_of h rfl hge hlt

end Operands64

/-- Settles O52: each meaning writes the sum or the difference of the two operands, cut to 64 bits, halved or clipped
once. Only the signed halves are stated exactly, and they fit. -/
theorem sixtyFourBitSums : Obligations.SixtyFourBitSums := by
  unfold Obligations.SixtyFourBitSums
  intro s rd rs1 rs2
  exact ⟨mod64_of_write64 rfl rfl, signed64_of_halved (sumOrDifference_add _ _ 0) rfl,
    mod64_of_write64 (halve_eq _) rfl, sat64_of rfl rfl, unsignedSat64_of rfl rfl,
    mod64_of_write64 rfl rfl, signed64_of_halved (sumOrDifference_sub _ _ 0) rfl,
    mod64_of_write64 (halve_eq _) rfl, sat64_of rfl rfl, unsignedSat64_of rfl rfl⟩

/-- Settles O53: each meaning but the last two adds a sum over the words to the operand rd, or subtracts it, and cuts
or clips the result once; the product of two words is exact. -/
theorem wordMultipliesTo64 : Obligations.WordMultipliesTo64 := by
  unfold Obligations.WordMultipliesTo64
  intro s rd rs1 rs2
  have hadded (a : Int) (p : Nat → Int) : a + s.wordSum p = a + overWords s p := by rw [wordSum_eq]
  have hsubtracted (a : Int) (p : Nat → Int) : a - s.wordSum p = a - overWords s p := by rw [wordSum_eq]
  exact ⟨mod64_of_addedWords rfl, mod64_of_write64 (hadded _ _) rfl,
    sat64_of rfl (hadded _ _), unsignedSat64_of rfl (hadded _ _),
    mod64_of_subtractedWords rfl, mod64_of_write64 (hsubtracted _ _) rfl,
    sat64_of rfl (hsubtracted _ _), unsignedSat64_of rfl (hsubtracted _ _),
    mod64_of_write64 rfl rfl, signed64_of_wordProduct rfl⟩

end Sys2Proof.Machine
end

section
/-!
The VS fields and the accesses to `vxsat` (rules R552 to R556, R581): what a completed instruction leaves of VS, in
which states an instruction completes, and that an instruction outside the vxsat class does not see VS.
-/

namespace Sys2Proof.Machine

open Sys2Proof

/-! The answers of the rows that access `vxsat`. -/

/-- Everything but the registers, memory and the pc is as it was. -/
structure KeepsControl (s u : State) : Prop where
  cfg : u.cfg = s.cfg
  v : u.v = s.v
  ov : u.ov = s.ov
  vs : u.vs = s.vs
  vsVs : u.vsVs = s.vsVs

theorem keepsControl_setX (s : State) (rd : Reg) (v : XWord) : KeepsControl s (s.setX rd v) :=
  ⟨setX_cfg s rd v, setX_v s rd v, setX_ov s rd v, setX_vs s rd v, setX_vsVs s rd v⟩

theorem keepsControl_setX64 (s : State) (rd : Reg) (v : XWord) : KeepsControl s (s.setX64 rd v) :=
  ⟨setX64_cfg s rd v, setX64_v s rd v, setX64_ov s rd v, setX64_vs s rd v, setX64_vsVs s rd v⟩

/-- What a row's use of `vxsat` (rule R555) says of its answer: an access is forbidden while VS is Off, and else notes
a clip, only reads, or writes `OV`. -/
inductive VxsatShape (s : State) : VxsatUse → Result → Prop where
  | noAccess (r : Result) : VxsatShape s .none r
  | clips {u : State} (hu : KeepsControl s u) (clip : Bool) : VxsatShape s .mayClip (s.clipped u clip)
  | reads {u : State} (hu : KeepsControl s u) : VxsatShape s .csr (s.vxsatAccess (.next u.advance))
  | writes {u : State} (hu : KeepsControl s u) (ov : Bool) :
      VxsatShape s .csr (s.vxsatAccess (.next (u.setOv ov).advance))

theorem vxsat_of_mem_noAccess {row : Row} (h : row ∈ [Row.lw, .ld, .sw, .sd, .bne, .bpick, .maxw, .minw]) :
    (rowInfo row).vxsat = .none := by
  revert row
  decide

theorem ExecShape.vxsatShape {s : State} {row : Row} {r : Result} (hshape : ExecShape s row r) :
    VxsatShape s (rowInfo row).vxsat r := by
  have hnone (h : row ∈ [Row.lw, .ld, .sw, .sd, .bne, .bpick, .maxw, .minw]) :
      VxsatShape s (rowInfo row).vxsat r := vxsat_of_mem_noAccess h ▸ .noAccess r
  cases hshape with
  | writesX h | writes64 h => exact h ▸ .noAccess _
  | clipsX h rd v clip => exact h ▸ .clips (keepsControl_setX s rd v) clip
  | clips64 h rd v clip => exact h ▸ .clips (keepsControl_setX64 s rd v) clip
  | readsOv h rd => exact h ▸ .reads (keepsControl_setX s rd s.vxsat)
  | writesOv h rd ov => exact h ▸ .writes (keepsControl_setX s rd s.vxsat) ov
  | loads h | stores h | stops h =>
    apply hnone
    simp only [List.mem_cons, List.not_mem_nil, or_false] at h ⊢
    tauto
  | advances h | jumps h =>
    subst h
    exact hnone (by decide)

/-- The answer of a row that accesses `vxsat` is the guarded one of rule R552. -/
theorem VxsatShape.eq_vxsatAccess {s : State} {use : VxsatUse} {r : Result} (h : VxsatShape s use r)
    (huse : use ≠ .none) : ∃ t, r = s.vxsatAccess (.next t) := by
  cases h with
  | noAccess => exact absurd rfl huse
  | clips | reads | writes => exact ⟨_, rfl⟩

theorem exec_eq_vxsatAccess {i : Instr} (s : State) (h : accessesVxsat i.row = true) :
    ∃ t, exec i s = s.vxsatAccess (.next t) :=
  (exec_shape i s).vxsatShape.eq_vxsatAccess (bne_iff_ne.mp h)

/-! VS after an instruction that completes. -/

/-- An OV-setting instruction that completes sets `OV` on a clip, and VS as rule R553 says. -/
theorem VxsatShape.flagsClip {s t : State} {use : VxsatUse} {r : Result} (h : VxsatShape s use r)
    (huse : use = .mayClip) (hr : r = .next t) : ∃ clip, FlagsClip s t clip := by
  cases h with
  | noAccess | reads | writes => cases huse
  | @clips u hu clip =>
    obtain ⟨hoff, hnext⟩ := vxsatAccess_next hr
    injection hnext with ht
    exact ⟨_, ht ▸ flagsClip_noteClip s u clip hoff hu.cfg hu.v hu.ov hu.vs hu.vsVs⟩

/-- Settles O15: an OV-setting instruction notes its clip, and CLROV writes `vxsat`. -/
theorem writingVxsatMakesVsDirty : Obligations.WritingVxsatMakesVsDirty := by
  unfold Obligations.WritingVxsatMakesVsDirty
  refine ⟨fun i s t hrow hexec hstatic => ?static, fun i s t hrow hexec hdynamic hov => ?dynamic⟩
  case static =>
    rcases hrow with hclip | rfl
    · obtain ⟨clip, hflags⟩ := (exec_shape i s).vxsatShape.flagsClip hclip hexec
      exact hflags.dirty (.inl hstatic)
    · obtain ⟨hoff, hnext⟩ := vxsatAccess_next ((exec_clrov s).symm.trans hexec)
      injection hnext with ht
      exact ht ▸ madeDirty_setOv s s false hoff rfl rfl rfl rfl
  case dynamic =>
    obtain ⟨clip, hflags⟩ := (exec_shape i s).vxsatShape.flagsClip hrow hexec
    have hnoclip : ¬clip := fun hclip => Bool.false_ne_true (hov.symm.trans (hflags.ov.mpr (.inr hclip)))
    exact hflags.kept hdynamic hnoclip

/-- An access to `vxsat` that completes keeps both VS fields or makes them Dirty where they count (rules R553, R554). -/
theorem VxsatShape.vs_next {s t : State} {use : VxsatUse} {r : Result} (h : VxsatShape s use r) (hr : r = .next t)
    (huse : use ≠ .none) :
    (t.vs = s.vs ∧ t.vsVs = s.vsVs) ∨ (s.vxsatOff = false ∧ MadeDirty s t) := by
  obtain ⟨u, hguard⟩ := h.eq_vxsatAccess huse
  obtain ⟨hoff, -⟩ := vxsatAccess_next (hguard.symm.trans hr)
  cases h with
  | noAccess => exact absurd rfl huse
  | clips hu clip =>
    obtain ⟨clipped, hflags⟩ := (VxsatShape.clips hu clip).flagsClip rfl hr
    by_cases hwrites : s.cfg.vsDirty = .static ∨ clipped
    · exact .inr ⟨hoff, hflags.dirty hwrites⟩
    · obtain ⟨hdynamic, hnoclip⟩ := not_or.mp hwrites
      refine .inl (hflags.kept ?_ hnoclip)
      cases hmode : s.cfg.vsDirty with
      | static => exact absurd hmode hdynamic
      | dynamic => rfl
  | reads hu =>
    rw [vxsatAccess_on s _ hoff] at hr
    injection hr with ht
    exact .inl (ht ▸ ⟨hu.vs, hu.vsVs⟩)
  | writes hu ov =>
    rw [vxsatAccess_on s _ hoff] at hr
    injection hr with ht
    exact .inr ⟨hoff, ht ▸ madeDirty_setOv s _ ov hoff hu.cfg hu.v hu.vs hu.vsVs⟩

/-- A completed instruction keeps both VS fields, or it accessed `vxsat`, which VS did not forbid, and made them Dirty
where they count. -/
theorem exec_vs {i : Instr} {s t : State} (h : exec i s = .next t) :
    (t.vs = s.vs ∧ t.vsVs = s.vsVs) ∨ (s.vxsatOff = false ∧ MadeDirty s t) := by
  by_cases hrow : (rowInfo i.row).vxsat = .none
  · obtain ⟨-, hvs, hvsVs⟩ := (exec_shape i s).flagsKept hrow h
    exact .inl ⟨hvs, hvsVs⟩
  · exact (exec_shape i s).vxsatShape.vs_next h hrow

/-- No instruction writes a parameter or `V` (rules R10, R30). -/
theorem ExecShape.cfg_v {s t : State} {row : Row} {r : Result} (hshape : ExecShape s row r) (hr : r = .next t) :
    t.cfg = s.cfg ∧ t.v = s.v := by
  cases hshape with
  | writesX _ rd v =>
    injection hr with ht
    exact ht ▸ ⟨setX_cfg s rd v, setX_v s rd v⟩
  | writes64 _ rd v =>
    injection hr with ht
    exact ht ▸ ⟨setX64_cfg s rd v, setX64_v s rd v⟩
  | clipsX _ rd v clip =>
    obtain ⟨-, hnext⟩ := vxsatAccess_next hr
    injection hnext with ht
    exact ht ▸ ⟨(noteClip_cfg _ clip).trans (setX_cfg s rd v), (noteClip_v _ clip).trans (setX_v s rd v)⟩
  | clips64 _ rd v clip =>
    obtain ⟨-, hnext⟩ := vxsatAccess_next hr
    injection hnext with ht
    exact ht ▸ ⟨(noteClip_cfg _ clip).trans (setX64_cfg s rd v), (noteClip_v _ clip).trans (setX64_v s rd v)⟩
  | loads _ rd addr n ext =>
    obtain ⟨-, -, v, -, hv⟩ := load_next hr
    injection hv with ht
    exact ht ▸ ⟨setX_cfg s rd _, setX_v s rd _⟩
  | stores _ addr n v =>
    obtain ⟨-, -, rfl⟩ := store_next hr
    exact ⟨rfl, rfl⟩
  | advances =>
    injection hr with ht
    exact ht ▸ ⟨rfl, rfl⟩
  | jumps _ target =>
    obtain ⟨-, rfl⟩ := jump_next hr
    exact ⟨rfl, rfl⟩
  | stops => cases hr
  | readsOv _ rd =>
    obtain ⟨-, hnext⟩ := vxsatAccess_next hr
    injection hnext with ht
    exact ht ▸ ⟨setX_cfg s rd _, setX_v s rd _⟩
  | writesOv _ rd ov =>
    obtain ⟨-, hnext⟩ := vxsatAccess_next hr
    injection hnext with ht
    exact ht ▸ ⟨setX_cfg s rd _, setX_v s rd _⟩

/-- A field that an allowed access leaves or makes Dirty where it counts was not Off there (rules R552 to R554). -/
theorem vs_of_madeDirty {old new : VState} {counts : Bool} (hoff : (counts && old == .off) = false)
    (h : new = if counts then .dirty else old) : (new = old ∨ new = .dirty) ∧ (old = .off → new = .off) := by
  cases counts with
  | false => exact ⟨.inl h, fun hold => h.trans hold⟩
  | true => exact ⟨.inr h, fun hold => by rw [hold] at hoff; cases hoff⟩

/-- Settles O16: a step is the stutter at the end of the run or an instruction that completes, which keeps VS or makes
it Dirty where the access was not forbidden. -/
theorem vsOnlyBecomesDirty : Obligations.VsOnlyBecomesDirty := by
  unfold Obligations.VsOnlyBecomesDirty
  intro s t hstep
  rcases step_next hstep with rfl | ⟨i, hexec⟩
  · exact ⟨rfl, rfl, .inl rfl, .inl rfl, id, id⟩
  obtain ⟨hcfg, hv⟩ := (exec_shape i s).cfg_v hexec
  rcases exec_vs hexec with ⟨hvs, hvsVs⟩ | ⟨hoff, hdirty⟩
  · exact ⟨hcfg, hv, .inl hvs, .inl hvsVs, hvs.trans, hvsVs.trans⟩
  · obtain ⟨hoffVs, hoffVsVs⟩ := Bool.or_eq_false_iff.mp hoff
    obtain ⟨hvs, hvsOff⟩ := vs_of_madeDirty hoffVs hdirty.vs
    obtain ⟨hvsVs, hvsVsOff⟩ := vs_of_madeDirty hoffVsVs hdirty.vsVs
    exact ⟨hcfg, hv, hvs, hvsVs, hvsOff, hvsVsOff⟩

/-! In which states an instruction completes (rule R556). -/

theorem ExecShape.completes {s : State} {row : Row} {r : Result} (hshape : ExecShape s row r)
    (hrow : row ∉ [Row.lw, .sw, .ld, .sd, .bne, .bpick, .maxw, .minw])
    (hoff : accessesVxsat row = false ∨ s.vxsatOff = false) : ∃ t, r = .next t := by
  have hallowed {use : VxsatUse} (h : (rowInfo row).vxsat = use) (huse : use ≠ .none) : s.vxsatOff = false :=
    hoff.resolve_left fun hno => huse (h.symm.trans (accessesVxsat_eq_false.mp hno))
  cases hshape with
  | writesX | writes64 => exact ⟨_, rfl⟩
  | clipsX h | clips64 h => exact ⟨_, vxsatAccess_on s _ (hallowed h (by decide))⟩
  | readsOv h | writesOv h => exact ⟨_, vxsatAccess_on s _ (hallowed h (by decide))⟩
  | loads h | stores h | stops h =>
    simp only [List.mem_cons, List.not_mem_nil, or_false] at h hrow
    tauto
  | advances h | jumps h =>
    subst h
    exact absurd (by decide) hrow

/-- Settles O17: outside the loads, the stores, BNE and the removed rows only the guard of rule R552 can stop. -/
theorem noDataDependentException : Obligations.NoDataDependentException := by
  unfold Obligations.NoDataDependentException
  intro i s hpresent hrow
  constructor
  · rintro ⟨t, hexec⟩
    by_cases haccess : accessesVxsat i.row = true
    · obtain ⟨u, hguard⟩ := exec_eq_vxsatAccess s haccess
      exact .inr (vxsatAccess_next (hguard.symm.trans hexec)).1
    · exact .inl (Bool.not_eq_true _ ▸ haccess)
  · refine (exec_shape i s).completes fun hmem => ?_
    rcases List.mem_append.mp (show i.row ∈ [Row.lw, .sw, .ld, .sd, .bne] ++ removedRows from hmem) with h | h
    · exact hrow h
    · exact hpresent (presence_of_mem_removedRows h .rv32)

/-! Instructions outside the vxsat class do not see VS (rule R552). -/

/-- The state with other VS fields. -/
def State.withVs (s : State) (vs vsVs : VState) : State := { s with vs := vs, vsVs := vsVs }

/-- The operation, where it completes, completes in the same way with any other VS fields. -/
def VsBlind (f : State → Result) : Prop :=
  ∀ s t : State, f s = .next t → ∀ vs vsVs, f (s.withVs vs vsVs) = .next (t.withVs vs vsVs)

theorem IgnoresMemVs.withVs {α : Type} {f : State → α} (h : IgnoresMemVs f) (s : State) (vs vsVs : VState) :
    f (s.withVs vs vsVs) = f s := h s s.mem vs vsVs

theorem setX_withVs (s : State) (vs vsVs : VState) (r : Reg) (v : XWord) :
    (s.withVs vs vsVs).setX r v = (s.setX r v).withVs vs vsVs := by
  unfold State.setX
  split <;> rfl

theorem setX64_withVs (s : State) (vs vsVs : VState) (f : Reg) (v : XWord) :
    (s.withVs vs vsVs).setX64 f v = (s.setX64 f v).withVs vs vsVs := by
  cases hx : s.cfg.xlen with
  | rv64 => rw [setX64_of_rv64 hx, setX64_of_rv64 (s := s.withVs vs vsVs) hx, setX_withVs]
  | rv32 =>
    rw [setX64_of_rv32 hx, setX64_of_rv32 (s := s.withVs vs vsVs) hx, State.setPair, State.setPair]
    split
    · rfl
    · rw [setX_withVs, setX_withVs]

theorem writeBits_withVs {s t : State} {rd : Reg} {v : XWord} (h : s.writeBits rd v = .next t) (vs vsVs : VState) :
    (s.withVs vs vsVs).writeBits rd v = .next (t.withVs vs vsVs) := by
  injection h with ht
  rw [State.writeBits, setX_withVs, ← ht]
  rfl

theorem load_withVs {s t : State} {addr : XWord} {n : Nat} {rd : Reg} {ext : Nat → XWord}
    (h : s.load addr n (fun v => s.writeBits rd (ext v)) = .next t) (vs vsVs : VState) :
    (s.withVs vs vsVs).load addr n (fun v => (s.withVs vs vsVs).writeBits rd (ext v)) =
      .next (t.withVs vs vsVs) := by
  obtain ⟨haligned, hregion, v, hread, hwrite⟩ := load_next h
  exact (load_effect (s.withVs vs vsVs) addr n v _ haligned hregion hread).trans (writeBits_withVs hwrite vs vsVs)

theorem store_withVs {s t : State} {addr : XWord} {n v : Nat} (h : s.store addr n v = .next t) (vs vsVs : VState) :
    (s.withVs vs vsVs).store addr n v = .next (t.withVs vs vsVs) := by
  obtain ⟨haligned, hregion, rfl⟩ := store_next h
  exact store_effect (s.withVs vs vsVs) addr n v haligned hregion

theorem jump_withVs {s t : State} {target : XWord} (h : s.jump target = .next t) (vs vsVs : VState) :
    (s.withVs vs vsVs).jump target = .next (t.withVs vs vsVs) := by
  obtain ⟨haligned, rfl⟩ := jump_next h
  exact if_pos haligned

theorem ExecForm.vsBlind {row : Row} {f : State → Result} (hform : ExecForm row f)
    (hrow : (rowInfo row).vxsat = .none) : VsBlind f := by
  intro s t h vs vsVs
  cases hform with
  | writesX _ rd v hv =>
    dsimp only at h ⊢
    rw [hv.withVs]
    exact writeBits_withVs h vs vsVs
  | writes64 _ rd v hv =>
    dsimp only at h ⊢
    injection h with ht
    rw [hv.withVs, setX64_withVs, ← ht]
    rfl
  | loads _ rd addr n ext haddr =>
    dsimp only at h ⊢
    rw [haddr.withVs]
    exact load_withVs h vs vsVs
  | stores _ addr n v haddr hv =>
    dsimp only at h ⊢
    rw [haddr.withVs, hv.withVs]
    exact store_withVs h vs vsVs
  | branches _ rs1 rs2 target htarget =>
    dsimp only at h ⊢
    by_cases heq : s.x rs1 = s.x rs2
    · rw [if_pos heq] at h
      injection h with ht
      exact ht ▸ if_pos heq
    · rw [if_neg heq] at h
      rw [htarget.withVs]
      exact (if_neg heq).trans (jump_withVs h vs vsVs)
  | stops => cases h
  | clipsX hclip | clips64 hclip | readsOv hclip | writesOv hclip =>
    rw [hrow] at hclip
    cases hclip

/-- While a VS field that counts is Off, `vxsat` may not be accessed (rules R552, R554). -/
theorem vxsatOff_of_off {s : State}
    (h : (s.cfg.hasVs = true ∧ s.vs = .off) ∨ (s.cfg.hasVs = true ∧ s.cfg.hasH = true ∧ s.v = true ∧ s.vsVs = .off)) :
    s.vxsatOff = true := by
  rcases h with ⟨hhas, hvs⟩ | ⟨hhas, hhasH, hv, hvsVs⟩
  · simp [State.vxsatOff, hhas, hvs]
  · simp [State.vxsatOff, State.virtual, hhas, hhasH, hv, hvsVs]

/-- Settles O14: the guard of rule R552 stops every access, and the operands of the other instructions do not read
VS. -/
theorem vsOffMakesVxsatAccessIllegal : Obligations.VsOffMakesVxsatAccessIllegal := by
  unfold Obligations.VsOffMakesVxsatAccessIllegal
  refine ⟨fun i s haccess hvs => ?stops, fun i s t vs vsVs hno hexec => ?blind⟩
  case stops =>
    obtain ⟨u, hguard⟩ := exec_eq_vxsatAccess s haccess
    exact hguard.trans (vxsatAccess_off s _ (vxsatOff_of_off hvs))
  case blind => exact (exec_form i).vsBlind (accessesVxsat_eq_false.mp hno) s t hexec vs vsVs

end Sys2Proof.Machine
end

section
/-!
The state after reset (rules R34, R580), the exceptions' records (rule R557), and what a step does with the word it
fetches (rules R551, R583, R586): the decode-time conditions, with the rows that each of them names.
-/

namespace Sys2Proof.Machine

open Sys2Proof

/-! The state after reset. -/

theorem x_resetWith (c : Config) (r : Reg) : (State.resetWith c).x r = 0#64 := by
  unfold State.x
  split
  · rfl
  · rw [State.resetWith, Vector.getElem_replicate]
    cases c.xlen <;> rfl

/-- Settles O1: each field of the state after reset is the parameter, and nothing is stored in it. -/
theorem resetLeavesTheParameters : Obligations.ResetLeavesTheParameters := by
  unfold Obligations.ResetLeavesTheParameters
  exact fun c => ⟨rfl, rfl, rfl, rfl, rfl, rfl, fun _ => rfl, x_resetWith c⟩

/-- Settles O2: memory is empty, every register is zero, and the default RESET_PC is a multiple of 4. -/
theorem resetSatisfiesInvariant : Obligations.ResetSatisfiesInvariant := by
  unfold Obligations.ResetSatisfiesInvariant
  exact
    { sorted := wf_reset
      region := fun _ hc => absurd hc List.not_mem_nil
      zero := rfl
      fits := fun _ => rfl
      pcFits := rfl
      pcAligned := by decide }

/-- Settles O11: the record of each exception is the one its constructor is read as. -/
theorem exceptionRecords : Obligations.ExceptionRecords := by
  unfold Obligations.ExceptionRecords
  exact fun _ _ _ => ⟨rfl, rfl, rfl, rfl, rfl, rfl, rfl⟩

/-! A step. -/

/-- Settles O10: a step first asks whether the pc is END_PC. -/
theorem runEndsAtEndPc : Obligations.RunEndsAtEndPc := by
  unfold Obligations.RunEndsAtEndPc
  intro s hend
  have hended : s.ended = true := beq_iff_eq.mpr hend
  exact if_pos hended

theorem runWord_of_legalRow {s : State} {w : Word} {row : Row} (h : legalRow s.cfg w = some row) :
    s.runWord w = exec (instrOf row w) s := by
  rw [State.runWord, h]
  rfl

/-- Settles O4: a step runs the row the fetched word is on the configured hardware, or raises where there is none. -/
theorem stepRunsDecodedInstruction : Obligations.StepRunsDecodedInstruction := by
  unfold Obligations.StepRunsDecodedInstruction
  intro s w hfetch
  rw [step_of_fetches hfetch]
  refine ⟨fun i hi => ?legal, fun hnone => ?illegal⟩
  case legal =>
    obtain ⟨row, hrow, rfl⟩ := Option.map_eq_some_iff.mp hi
    exact runWord_of_legalRow hrow
  case illegal => exact runWord_of_legalRow_none (Option.map_eq_none_iff.mp hnone)

/-! The model's marks of the rows, against the lists of Safety.lean. -/

/-- How a row stands at a width is what the lists of rules R71 and R114 and decision D15 say. -/
theorem presence_eq (x : Xlen) (row : Row) :
    presence x row = if row ∈ absentRows x then .absent else if row ∈ removedRows then .removed
      else if row ∈ replacedRows x then .replaced else .present := by
  cases x with
  | rv32 => cases row <;> rfl
  | rv64 => cases row <;> rfl

/-- The rows marked Zpsfoperand are those that need it (rules R4, R441). -/
theorem zpsf_eq (row : Row) : (rowInfo row).zpsf = decide (row ∈ needZpsfoperandRows) := by
  cases row <;> rfl

/-- The fields marked as pairs are those that name a 64-bit operand (rule R22). -/
theorem pairs_eq (row : Row) :
    (rowInfo row).pairs = if row ∈ pairRs2Rows then .rdRs1Rs2 else if row ∈ pairRdRows ∧ row ∈ pairRs1Rows then .rdRs1
      else if row ∈ pairRdRows then .rd else if row ∈ pairRs1Rows then .rs1 else .none := by
  cases row <;> rfl

theorem known_iff (x : Xlen) (row : Row) : known x row = true ↔ row ∉ absentRows x := by
  rw [known, presence_eq, bne_iff_ne]
  by_cases habsent : row ∈ absentRows x
  · simp [habsent]
  · refine iff_of_true ?_ habsent
    rw [if_neg habsent]
    split
    · decide
    · split <;> decide

/-- Which rows a configuration has, among those of its width (rules R4, R114, R551; decision D15). -/
theorem rowPresent_iff {c : Config} {row : Row} (hknown : known c.xlen row = true) :
    rowPresent c row = true ↔ row ∉ removedRows ∧ (row ∈ replacedRows c.xlen → c.keepReplaced = true) ∧
      (row ∈ needZpsfoperandRows → c.zpsf = true) := by
  rw [rowPresent, presence_eq, if_neg ((known_iff _ _).mp hknown), zpsf_eq]
  by_cases hremoved : row ∈ removedRows
  · simp [hremoved]
  · by_cases hreplaced : row ∈ replacedRows c.xlen <;> simp [hremoved, hreplaced, imp_iff_not_or]

/-- A row whose rs2 names a 64-bit operand names one with rd and with rs1 too (rule R361). -/
theorem mem_pairRows_of_rs2 {row : Row} (h : row ∈ pairRs2Rows) : row ∈ pairRdRows ∧ row ∈ pairRs1Rows := by
  revert row
  decide

theorem evenPairs_iff (row : Row) (rd rs1 rs2 : Reg) :
    evenPairs row rd rs1 rs2 = true ↔ (row ∈ pairRdRows → evenField rd = true) ∧
      (row ∈ pairRs1Rows → evenField rs1 = true) ∧ (row ∈ pairRs2Rows → evenField rs2 = true) := by
  rw [evenPairs, pairs_eq]
  by_cases hrs2 : row ∈ pairRs2Rows
  · obtain ⟨hrd, hrs1⟩ := mem_pairRows_of_rs2 hrs2
    simp [hrs2, hrd, hrs1, and_assoc]
  · by_cases hrd : row ∈ pairRdRows <;> by_cases hrs1 : row ∈ pairRs1Rows <;> simp [hrs2, hrd, hrs1]

/-- The pair fields of a word are legal unless one of them is odd where that is illegal (rules R22, R24, R551). -/
theorem pairsLegal_iff (c : Config) (row : Row) (w : Word) :
    pairsLegal c row (rdOf w) (rs1Of w) (rs2Of w) = true ↔
      c.xlen = .rv64 ∨ c.oddPair = .ignoreBit0 ∨ ¬OddPairField row w := by
  have heven : evenPairs row (rdOf w) (rs1Of w) (rs2Of w) = true ↔ ¬OddPairField row w := by
    simp [evenPairs_iff, OddPairField, evenField]
  simp only [pairsLegal, Bool.or_eq_true, beq_iff_eq, heven, or_assoc]

/-! A word that is read as a row. -/

section DecodedWord

variable {s : State} {w : Word} {row : Row}

theorem runWord_of_legal (hrow : decodeRow s.cfg.xlen w = some row)
    (h : rowPresent s.cfg row = true ∧ pairsLegal s.cfg row (rdOf w) (rs1Of w) (rs2Of w) = true) :
    s.runWord w = exec (instrOf row w) s := by
  apply runWord_of_legalRow
  rw [legalRow, hrow, Option.filter_some]
  exact if_pos (Bool.and_eq_true_iff.mpr h)

theorem runWord_of_not_legal (hrow : decodeRow s.cfg.xlen w = some row)
    (h : ¬(rowPresent s.cfg row = true ∧ pairsLegal s.cfg row (rdOf w) (rs1Of w) (rs2Of w) = true)) :
    s.runWord w = .fault (.illegalInstruction s.pcv w) := by
  apply runWord_of_legalRow_none
  rw [legalRow, hrow, Option.filter_some]
  exact if_neg fun hlegal => h (Bool.and_eq_true_iff.mp hlegal)

end DecodedWord

/-- Settles O8: a fetched word that is read as a row runs exactly when the row is present and its pair fields are
legal, and the marks of the rows are the lists of the statement. -/
theorem illegalWordsRaise : Obligations.IllegalWordsRaise := by
  unfold Obligations.IllegalWordsRaise
  refine ⟨known_iff, fun s w hfetch => ?_⟩
  rw [step_of_fetches hfetch]
  refine ⟨fun hnone => ?noRow, fun i hi => ?row⟩
  case noRow =>
    apply runWord_of_legalRow_none
    rw [legalRow, Option.map_eq_none_iff.mp hnone]
    rfl
  case row =>
    obtain ⟨row, hrow, rfl⟩ := Option.map_eq_some_iff.mp hi
    have hpresent := rowPresent_iff (decodeRow_eq_some hrow).2
    have hpairs := pairsLegal_iff s.cfg row w
    rw [row_instrOf]
    refine ⟨fun hneeds hzpsf => ?zpsf, fun hremoved => ?removed, fun hreplaced hkeep => ?replaced,
      fun hx hillegal hodd => ?odd, fun hzpsf hremoved hreplaced hodd => ?runs⟩
    case zpsf =>
      refine runWord_of_not_legal hrow fun ⟨hlegal, _⟩ => ?_
      obtain ⟨-, -, hhas⟩ := hpresent.mp hlegal
      exact Bool.false_ne_true (hzpsf.symm.trans (hhas hneeds))
    case removed => exact runWord_of_not_legal hrow fun ⟨hlegal, _⟩ => (hpresent.mp hlegal).1 hremoved
    case replaced =>
      refine runWord_of_not_legal hrow fun ⟨hlegal, _⟩ => ?_
      obtain ⟨-, hkept, -⟩ := hpresent.mp hlegal
      exact Bool.false_ne_true (hkeep.symm.trans (hkept hreplaced))
    case odd =>
      refine runWord_of_not_legal hrow fun ⟨_, hlegal⟩ => ?_
      rcases hpairs.mp hlegal with hwide | hignore | heven
      · cases hx.symm.trans hwide
      · cases hillegal.symm.trans hignore
      · exact heven hodd
    case runs => exact runWord_of_legal hrow ⟨hpresent.mpr ⟨hremoved, hreplaced, hzpsf⟩, hpairs.mpr hodd⟩

end Sys2Proof.Machine
end

section
/-!
The non-SIMD instructions (47_nonsimd.md) and the word products of RV64 (49_rv64_misc_mul.md): results that fill one
GPR.
-/

namespace Sys2Proof.Machine

open Sys2Proof

/-! Clipped results of n + 1 bits, sign-extended: a halfword for n = 15, a word for n = 31. -/

section ClippedNarrow

variable {s : State} {i : Instr} {rd : Reg} {n : Nat}

/-- The least significant bits of a clipped result, sign-extended to XLEN (rule R400). -/
theorem signedClip_of_narrow {r : Clipped} {clip : Prop} {k : Int} (hn : n + 1 ≤ 32)
    (h : exec i s = s.clipped (s.setX rd ((trunc (n + 1) r.val).signExtend 64)) r.clip) (hclip : r.clip = true ↔ clip)
    (hval : r.val.bmod (2 ^ (n + 1)) = k) : SignedClip s i rd clip k := by
  have hfits : n + 1 ≤ s.cfg.xlen.bits := hn.trans (by cases s.cfg.xlen <;> decide)
  refine signedClip_of h hclip ?_
  rw [signedX_signExtend s.cfg.xlen _ hfits, toInt_trunc_bmod, hval]

/-- A value of n + 1 signed bits is kept. -/
theorem bmod_of_signed {k : Int} (hge : -2 ^ n ≤ k) (hlt : k < 2 ^ n) : k.bmod (2 ^ (n + 1)) = k := by
  rw [← toInt_trunc_bmod, toInt_trunc_of n k hge hlt]

theorem clamp_signed_range (n : Nat) (k : Int) :
    -2 ^ n ≤ clamp (-2 ^ n) (2 ^ n - 1) k ∧ clamp (-2 ^ n) (2 ^ n - 1) k < 2 ^ n := by
  have hpos : (0 : Int) < 2 ^ n := by positivity
  exact ⟨clamp_ge _ _ _ (by omega), Int.lt_of_le_sub_one (clamp_le _ _ _ (by omega))⟩

/-- A result clipped to the signed range it is written in. -/
theorem signedSat_of_narrow {r : Clipped} {k : Int} (hn : n + 1 ≤ 32)
    (h : exec i s = s.clipped (s.setX rd ((trunc (n + 1) r.val).signExtend 64)) r.clip)
    (hclip : r.clip = true ↔ outside (-2 ^ n) (2 ^ n - 1) k) (hval : r.val = clamp (-2 ^ n) (2 ^ n - 1) k) :
    SignedSat s i rd (-2 ^ n) (2 ^ n - 1) k := by
  obtain ⟨hge, hlt⟩ := clamp_signed_range n k
  exact signedClip_of_narrow hn h hclip (by rw [hval]; exact bmod_of_signed hge hlt)

/-- A signed result clipped once; `m` is the result in the terms of the meaning. -/
theorem signedSat_of_satq {m k : Int} (hn : n + 1 ≤ 32) (hm : m = k)
    (h : exec i s = s.clipped (s.setX rd ((trunc (n + 1) (satq n m).val).signExtend 64)) (satq n m).clip) :
    SignedSat s i rd (-2 ^ n) (2 ^ n - 1) k :=
  signedSat_of_narrow hn h (hm ▸ satq_clip n m) (hm ▸ satq_val n m)

/-- An unsigned result clipped once, and then sign-extended all the same (rules R407, R408, R411, R413). -/
theorem signedClip_of_satu {k : Int} (hn : n + 1 ≤ 32)
    (h : exec i s = s.clipped (s.setX rd ((trunc (n + 1) (satu (n + 1) k).val).signExtend 64)) (satu (n + 1) k).clip) :
    SignedClip s i rd (outside 0 (2 ^ (n + 1) - 1) k) ((clamp 0 (2 ^ (n + 1) - 1) k).bmod (2 ^ (n + 1))) :=
  signedClip_of_narrow hn h (satu_clip (n + 1) k) (by rw [satu_val])

/-- A clipped value added to an accumulator and clipped again (rules R421 to R423, R584). -/
theorem signedClip_of_twiceClipped {m acc k : Int} (hm : m = k) (h : exec i s = s.clipW rd
      ((satq 31 m).andThen fun t => satq 31 (acc + t))) :
    SignedClip s i rd
      (outside (-2 ^ 31) (2 ^ 31 - 1) k ∨
        outside (-2 ^ 31) (2 ^ 31 - 1) (acc + clamp (-2 ^ 31) (2 ^ 31 - 1) k))
      (clamp (-2 ^ 31) (2 ^ 31 - 1) (acc + clamp (-2 ^ 31) (2 ^ 31 - 1) k)) := by
  obtain ⟨hclip, hval, hge, hlt⟩ := twice_clipped 31 k acc
  subst hm
  exact signedClip_of_narrow (n := 31) le_rfl h hclip (by rw [hval]; exact bmod_of_signed hge hlt)

/-- A shift of the low word to either side by a signed amount (rules R417, R418). -/
theorem signedSat_of_shiftLR (shift : RightShift) {rs1 : Reg} {amount m : Int} (hamount : amount = m)
    (h : exec i s = s.clipW rd (shiftLR 32 shift.meaning (s.sl 32 rs1 0) amount)) :
    SignedSat s i rd (-2 ^ 31) (2 ^ 31 - 1)
      (if m < 0 then shift.result (s.sl 32 rs1 0) (min (-m).toNat 31) else s.sl 32 rs1 0 * 2 ^ m.toNat) := by
  obtain ⟨hge, hlt⟩ := word_range s rs1 0
  obtain ⟨hclip, hval⟩ := shiftLR_spec 31 shift.meaning shift.result (s.sl 32 rs1 0) m shift.meaning_eq_result
    (fun _ => shift.result_signed_bounds 30 _ _) hge hlt
  subst hamount
  exact signedSat_of_narrow (n := 31) le_rfl h hclip hval

end ClippedNarrow

/-- Settles O55: each meaning clips one result to 16 bits. -/
theorem scalarHalfwordSaturation : Obligations.ScalarHalfwordSaturation := by
  unfold Obligations.ScalarHalfwordSaturation
  intro s rd rs1 rs2
  have hhalf : 15 + 1 ≤ 32 := by decide
  exact ⟨signedSat_of_satq hhalf rfl rfl, signedClip_of_satu (n := 15) hhalf rfl,
    signedSat_of_satq hhalf rfl rfl, signedClip_of_satu (n := 15) hhalf rfl,
    signedSat_of_satq hhalf rfl rfl, signedSat_of_satq hhalf rfl rfl, signedSat_of_satq hhalf rfl rfl⟩

/-- Settles O56: each meaning clips one result to 32 bits, the KDMAxy a doubled product and then its sum. -/
theorem scalarWordSaturation : Obligations.ScalarWordSaturation := by
  unfold Obligations.ScalarWordSaturation
  intro s rd rs1 rs2 imm5
  have hword : 31 + 1 ≤ 32 := le_rfl
  have hlow : shl (s.sl 32 rs1 0) (s.low 5 rs2) = s.sl 32 rs1 0 * 2 ^ ((s.x rs2).toNat % 32) := by
    rw [low_eq]
    rfl
  have hslow : s.slow 6 rs2 = ((s.x rs2).toNat : Int).bmod 64 := slow_eq s 6 rs2
  exact ⟨signedSat_of_satq hword rfl rfl, signedClip_of_satu (n := 31) hword rfl,
    signedSat_of_satq hword rfl rfl, signedClip_of_satu (n := 31) hword rfl,
    signedSat_of_satq hword (shl_one _) rfl, signedSat_of_satq hword (shl_one _) rfl,
    signedSat_of_satq hword (shl_one _) rfl,
    signedClip_of_twiceClipped (shl_one _) rfl, signedClip_of_twiceClipped (shl_one _) rfl,
    signedClip_of_twiceClipped (shl_one _) rfl,
    signedSat_of_satq hword hlow rfl, signedSat_of_satq hword rfl rfl,
    signedSat_of_shiftLR .plain hslow rfl, signedSat_of_shiftLR .rounding hslow rfl,
    signedSat_of_satq hword (iabs_eq _) rfl⟩

/-! Results that do not clip. -/

section Exact

variable {s : State} {i : Instr} {rd rs1 rs2 : Reg} {k : Int}

/-- A number cut to a word and sign-extended. -/
theorem signed_of_writeW (h : exec i s = s.writeW rd k) : Signed s i rd (k.bmod (2 ^ 32)) :=
  signed_of h (signedX_word _ _)

/-- A number that fits in a word. -/
theorem signed_of_writeW_exact (h : exec i s = s.writeW rd k) (hk : -2 ^ 31 ≤ k ∧ k < 2 ^ 31) : Signed s i rd k :=
  signed_of h (signedX_word_of _ _ hk.1 (Int.le_sub_one_of_lt hk.2))

/-- Half the sum or the difference of two signed words (rules R426, R428). -/
theorem signed_of_halvedWords (hk : SumOrDifference (s.sl 32 rs1 0) (fun _ => s.sl 32 rs2 0) k)
    (h : exec i s = s.writeW rd (halve k)) : Signed s i rd (k / 2) :=
  signed_of_writeW_exact h (half_bounds hk (word_range s rs1 0) fun _ => word_range s rs2 0)

/-- A number that fits in XLEN bits. -/
theorem signed_of_writeX (h : exec i s = s.writeX rd k)
    (hk : -2 ^ (s.cfg.xlen.bits - 1) ≤ k ∧ k < 2 ^ (s.cfg.xlen.bits - 1)) : Signed s i rd k :=
  signed_of h (signedX_trunc _ _ hk.1 hk.2)

/-- The average rounded up (rule R435). -/
theorem signed_of_average (h : exec i s = s.writeX rd (asr (s.sx rs1 + s.sx rs2 + 1) 1)) :
    Signed s i rd ((s.sx rs1 + s.sx rs2 + 1) / 2) := by
  obtain ⟨hge1, hlt1⟩ := sx_range s rs1
  obtain ⟨hge2, hlt2⟩ := sx_range s rs2
  refine signed_of_writeX h ⟨?_, ?_⟩ <;> omega

/-- A rounding right shift of a register (rules R436, R439): the result always fits. -/
theorem signed_of_roundingShift {n m : Nat} (hn : n = m) (h : exec i s = s.writeX rd (rnd (s.sx rs1) n)) :
    Signed s i rd (roundShift (s.sx rs1) m) := by
  obtain ⟨w, hw⟩ : ∃ w, s.cfg.xlen.bits - 1 = w + 1 := by
    cases s.cfg.xlen
    · exact ⟨30, rfl⟩
    · exact ⟨62, rfl⟩
  obtain ⟨hge, hlt⟩ := sx_range s rs1
  obtain ⟨hgeShift, hltShift⟩ := RightShift.rounding.result_signed_bounds w m (s.sx rs1)
  rw [hw] at hge hlt
  rw [rnd_eq, hn] at h
  exact signed_of_writeX h (hw ▸ ⟨hgeShift hge, hltShift hlt⟩)

/-- A rounding right shift of the low word (rule R539). -/
theorem signed_of_roundingWordShift {n : Nat} (h : exec i s = s.writeW rd (rnd (s.sl 32 rs1 0) n)) :
    Signed s i rd (roundShift (s.sl 32 rs1 0) n) := by
  obtain ⟨hge, hlt⟩ := word_range s rs1 0
  obtain ⟨hgeShift, hltShift⟩ := RightShift.rounding.result_signed_bounds 30 n (s.sl 32 rs1 0)
  rw [rnd_eq] at h
  exact signed_of_writeW_exact h ⟨hgeShift hge, hltShift hlt⟩

end Exact

/-- Settles O57: the halves, the average and the rounding shifts fit; the other results are cut to a word. -/
theorem scalarArithmetic : Obligations.ScalarArithmetic := by
  unfold Obligations.ScalarArithmetic
  intro s rd rs1 rs2 imm5 imm6
  exact ⟨signed_of_halvedWords (sumOrDifference_add _ _ 0) rfl, signed_of_writeW rfl,
    signed_of_halvedWords (sumOrDifference_sub _ _ 0) rfl, signed_of_writeW rfl,
    signed_of_writeW rfl, signed_of_writeW rfl, signed_of_average rfl,
    signed_of_roundingShift (amountX_eq s rs2) rfl, signed_of_roundingShift rfl rfl, signed_of_roundingShift rfl rfl,
    signed_of_roundingWordShift rfl⟩

/-! Bits, bytes and words of a register. -/

section Selections

variable {s : State} {i : Instr} {rd rs1 : Reg} {n m : Nat}

/-- The bits from bit 0 to bit m reversed (rules R437, R438). -/
theorem bits_of_bitReverse (hlt : n < 64) (hn : n = m) (h : exec i s = s.writeBits rd (bitReverse n (s.x rs1))) :
    Bits s i rd fun b => decide (b ≤ m) && (s.x rs1).getLsbD (m - b) :=
  bits_of h fun b _ => hn ▸ getLsbD_bitReverse n (s.x rs1) b hlt

/-- One byte of a value replaced (rule R440). -/
theorem lanes_of_insertByte {byte : BitVec 8} (h : exec i s = s.writeBits rd (insertByte n byte (s.x rd))) :
    Lanes s i rd 8 fun j r => r = if j = n then byte else lane 8 (s.x rd) j := by
  refine lanes_of_bits h fun j hj => lane_packLanes 8 8 _ le_rfl j (hj.trans_le ?_)
  exact Nat.div_le_div_right (bits_le s.cfg.xlen)

/-- A word taken out of a 64-bit operand from bit m on (rules R441, R442). -/
theorem bits_of_wordAt {v : XWord} (hn : n = m) (h : exec i s = s.writeBits rd (wordAt n v)) :
    Bits s i rd fun b => v.getLsbD (m + min b 31) :=
  bits_of h fun b hb => hn ▸ getLsbD_wordAt n v b (lt_64_of_lt_xlen hb)

end Selections

/-- Settles O58: each meaning writes a value whose bits, or bytes, are known. -/
theorem scalarBitManipulation : Obligations.ScalarBitManipulation := by
  unfold Obligations.ScalarBitManipulation
  intro s rd rs1 rs2 imm2 imm3 imm5 imm6
  exact ⟨bits_of_bitReverse (amountX_lt s rs2) (amountX_eq s rs2) rfl,
    bits_of_bitReverse (imm5.isLt.trans (by decide)) rfl rfl, bits_of_bitReverse imm6.isLt rfl rfl,
    lanes_of_insertByte rfl, lanes_of_insertByte rfl,
    bits_of_wordAt (low_eq s 5 rs2) rfl, bits_of_wordAt rfl rfl⟩

/-! Products of words on RV64. -/

section WordProducts

variable {s : State} {i : Instr} {rd rs1 rs2 : Reg} {k : Int}

/-- The product of word j of `x[rs1]` and word l of `x[rs2]`. -/
def wordProduct (s : State) (rs1 rs2 : Reg) (j l : Nat) : Int := s.sl 32 rs1 j * s.sl 32 rs2 l

/-- The two ends are not symmetric: only -2^31 times itself reaches 2^62. -/
theorem wordProduct_bounds (s : State) (rs1 rs2 : Reg) (j l : Nat) :
    -(2 ^ 31 * (2 ^ 31 - 1)) ≤ wordProduct s rs1 rs2 j l ∧ wordProduct s rs1 rs2 j l ≤ 2 ^ 31 * 2 ^ 31 := by
  obtain ⟨hge1, hlt1⟩ := word_range s rs1 j
  obtain ⟨hge2, hlt2⟩ := word_range s rs2 l
  exact mul_bounds (2 ^ 31) _ _ (by positivity) hge1 hlt1 hge2 hlt2

/-- On RV64 a number of 64 signed bits is written exactly. -/
theorem signed_of_writeX_rv64 (hx : s.cfg.xlen = .rv64) (h : exec i s = s.writeX rd k)
    (hk : -2 ^ 63 ≤ k ∧ k < 2 ^ 63) : Signed s i rd k :=
  signed_of_writeX h (by rw [hx]; exact hk)

theorem signed_of_wordProduct (hx : s.cfg.xlen = .rv64) (j l : Nat)
    (h : exec i s = s.writeX rd (wordProduct s rs1 rs2 j l)) : Signed s i rd (wordProduct s rs1 rs2 j l) := by
  obtain ⟨hge, hle⟩ := wordProduct_bounds s rs1 rs2 j l
  exact signed_of_writeX_rv64 hx h ⟨by omega, by omega⟩

/-- The difference of two products of words fits in 64 bits, as their sum does not. -/
theorem signed_of_wordProductDifference (hx : s.cfg.xlen = .rv64) (j l j' l' : Nat)
    (h : exec i s = s.writeX rd (wordProduct s rs1 rs2 j l - wordProduct s rs1 rs2 j' l')) :
    Signed s i rd (wordProduct s rs1 rs2 j l - wordProduct s rs1 rs2 j' l') := by
  obtain ⟨hge, hle⟩ := wordProduct_bounds s rs1 rs2 j l
  obtain ⟨hge', hle'⟩ := wordProduct_bounds s rs1 rs2 j' l'
  exact signed_of_writeX_rv64 hx h ⟨by omega, by omega⟩

/-- On RV64 a sum that is clipped once to 64 bits. -/
theorem signedSat_of_clipX_rv64 (hx : s.cfg.xlen = .rv64) (h : exec i s = s.clipX rd (satq 63 k)) :
    SignedSat s i rd (-2 ^ 63) (2 ^ 63 - 1) k := by
  obtain ⟨hge, hlt⟩ := clamp_signed_range 63 k
  refine signedClip_of h (satq_clip 63 k) ?_
  rw [satq_val, hx]
  exact signedX_trunc .rv64 _ hge hlt

end WordProducts

/-- Settles O59: a product of words, and a difference of two, fits in 64 bits; every other sum is clipped once. -/
theorem wordProducts64 : Obligations.WordProducts64 := by
  unfold Obligations.WordProducts64
  intro s rd rs1 rs2 hx
  exact ⟨signed_of_wordProduct hx 0 0 rfl, signed_of_wordProduct hx 0 1 rfl, signed_of_wordProduct hx 1 1 rfl,
    signed_of_wordProductDifference hx 1 1 0 0 rfl, signed_of_wordProductDifference hx 0 0 1 1 rfl,
    signed_of_wordProductDifference hx 1 0 0 1 rfl,
    signedSat_of_clipX_rv64 hx rfl, signedSat_of_clipX_rv64 hx rfl, signedSat_of_clipX_rv64 hx rfl,
    signedSat_of_clipX_rv64 hx rfl, signedSat_of_clipX_rv64 hx rfl, signedSat_of_clipX_rv64 hx rfl,
    signedSat_of_clipX_rv64 hx rfl, signedSat_of_clipX_rv64 hx rfl, signedSat_of_clipX_rv64 hx rfl,
    signedSat_of_clipX_rv64 hx rfl, signedSat_of_clipX_rv64 hx rfl, signedSat_of_clipX_rv64 hx rfl⟩

end Sys2Proof.Machine
end
